-- ==== Sys2Proof/Word.lean ====
section
/-! DEFINITION. The word types of the TLV stream parser: bytes, 16-bit quantities (tag length, cursor,
counters), 32-bit registers and 18-bit host addresses (`10_state.md`, `20_memory.md` R86). -/

namespace Sys2Proof

/-- One byte of a buffer (R17). -/
abbrev Byte := BitVec 8

/-- A 16-bit quantity: tag length, cursor, counters, buffer offsets (R50, R52, R126). -/
abbrev Half := BitVec 16

/-- A 32-bit host register (`10_state.md` section 2). -/
abbrev Word := BitVec 32

/-- A byte address of the 18-bit host address space (R86). -/
abbrev BusAddr := BitVec 18

end Sys2Proof
end

