-- ==== Sys2Proof/Syntax.lean ====
section
/-! DEFINITION. The instruction set: one TLV record is one instruction and its tag byte the opcode
(`30_encoding.md` R125, R136). One constructor of `Instr` per row of `spec/opcode_table.json`. -/

namespace Sys2Proof

/-- KIND of a table entry, the payload-decode result (R53, R247): a closed sum of the four known
payload kinds, UNRECOGNIZED, the per-entry failure TRUNCATED_PAYLOAD, and NONE before dispatch. -/
inductive Kind where
  /-- code 0, not yet dispatched -/
  | none
  /-- code 1, tag 4 decoded -/
  | sync
  /-- code 2, tag 5 decoded -/
  | electionV1
  /-- code 3, tag 18 decoded -/
  | channelSeq
  /-- code 4, tag 24 decoded -/
  | electionV2
  /-- code 5, any other tag: the raw TLV is the result -/
  | unrecognized
  /-- code 6, recognized tag with a payload shorter than its minimum -/
  | truncatedPayload
  deriving DecidableEq, Repr, Inhabited

/-- The rows of `spec/opcode_table.json`, without operands. -/
inductive Opcode where
  | ssthRequest
  | serviceRequest
  | serviceResponse
  | unknown3
  | syncParams
  | electionParams
  | serviceParameters
  | edrCapabilities
  | edrOperation
  | infra
  | invite
  | debugString
  | datapathState
  | encapsulatedIp
  | datapathDebugPacketLive
  | datapathDebugAfLive
  | arpa
  | ieee80211Container
  | channelSequence
  | unknown19
  | syncTree
  | version
  | bloomFilter
  | nanSync
  | electionParamsV2
  | unassigned19
  | unassigned1A
  | unassigned1C
  | unassigned20
  | unassigned40
  | unassigned80
  deriving DecidableEq, Repr

/-- One TLV record. `len` is the tag length field (bytes 1 and 2, little-endian), `value` the bytes
after it; a row whose mask leaves tag bits open has them as the operand `low`. -/
inductive Instr where
  /-- TAG_SSTH_REQUEST (tag 0, "SSTH request"): R248. -/
  | tagSsthRequest (len : Half) (value : List Byte)
  /-- TAG_SERVICE_REQUEST (tag 1, "service request"): R249. -/
  | tagServiceRequest (len : Half) (value : List Byte)
  /-- TAG_SERVICE_RESPONSE (tag 2, "service response"): R250. -/
  | tagServiceResponse (len : Half) (value : List Byte)
  /-- TAG_UNKNOWN_3 (tag 3, "unknown"): R251. -/
  | tagUnknown3 (len : Half) (value : List Byte)
  /-- TAG_SYNC_PARAMS (tag 4, "synchronization parameters"): R290. -/
  | tagSyncParams (len : Half) (value : List Byte)
  /-- TAG_ELECTION_PARAMS (tag 5, "election parameters"): R305. -/
  | tagElectionParams (len : Half) (value : List Byte)
  /-- TAG_SERVICE_PARAMETERS (tag 6, "service parameters"): R252. -/
  | tagServiceParameters (len : Half) (value : List Byte)
  /-- TAG_EDR_CAPABILITIES (tag 7, "enhanced data-rate capabilities"): R253. -/
  | tagEdrCapabilities (len : Half) (value : List Byte)
  /-- TAG_EDR_OPERATION (tag 8, "enhanced data-rate operation"): R254. -/
  | tagEdrOperation (len : Half) (value : List Byte)
  /-- TAG_INFRA (tag 9, "infra"): R255. -/
  | tagInfra (len : Half) (value : List Byte)
  /-- TAG_INVITE (tag 10, "invite"): R256. -/
  | tagInvite (len : Half) (value : List Byte)
  /-- TAG_DEBUG_STRING (tag 11, "debug string"): R257. -/
  | tagDebugString (len : Half) (value : List Byte)
  /-- TAG_DATAPATH_STATE (tag 12, "data-path state"): R258. -/
  | tagDatapathState (len : Half) (value : List Byte)
  /-- TAG_ENCAPSULATED_IP (tag 13, "encapsulated IP"): R259. -/
  | tagEncapsulatedIp (len : Half) (value : List Byte)
  /-- TAG_DATAPATH_DEBUG_PACKET_LIVE (tag 14, "datapath debug (packet/live)"): R260. -/
  | tagDatapathDebugPacketLive (len : Half) (value : List Byte)
  /-- TAG_DATAPATH_DEBUG_AF_LIVE (tag 15, "datapath debug (AF/live)"): R261. -/
  | tagDatapathDebugAfLive (len : Half) (value : List Byte)
  /-- TAG_ARPA (tag 16, "ARPA"): R262. -/
  | tagArpa (len : Half) (value : List Byte)
  /-- TAG_IEEE80211_CONTAINER (tag 17, "IEEE 802.11 container"): R263. -/
  | tagIeee80211Container (len : Half) (value : List Byte)
  /-- TAG_CHANNEL_SEQUENCE (tag 18, "channel sequence"): R325. -/
  | tagChannelSequence (len : Half) (value : List Byte)
  /-- TAG_UNKNOWN_19 (tag 19, "unknown"): R264. -/
  | tagUnknown19 (len : Half) (value : List Byte)
  /-- TAG_SYNC_TREE (tag 20, "synchronization tree"): R265. -/
  | tagSyncTree (len : Half) (value : List Byte)
  /-- TAG_VERSION (tag 21, "version"): R266. -/
  | tagVersion (len : Half) (value : List Byte)
  /-- TAG_BLOOM_FILTER (tag 22, "bloom filter"): R267. -/
  | tagBloomFilter (len : Half) (value : List Byte)
  /-- TAG_NAN_SYNC (tag 23, "NAN sync"): R268. -/
  | tagNanSync (len : Half) (value : List Byte)
  /-- TAG_ELECTION_PARAMS_V2 (tag 24, "election parameters v2"): R315. -/
  | tagElectionParamsV2 (len : Half) (value : List Byte)
  /-- TAG_UNASSIGNED_19 (tag 25, not in the registry): R269. -/
  | tagUnassigned19 (len : Half) (value : List Byte)
  /-- TAG_UNASSIGNED_1A (tags 0x1A to 0x1B, not in the registry): R269. -/
  | tagUnassigned1A (low : BitVec 1) (len : Half) (value : List Byte)
  /-- TAG_UNASSIGNED_1C (tags 0x1C to 0x1F, not in the registry): R269. -/
  | tagUnassigned1C (low : BitVec 2) (len : Half) (value : List Byte)
  /-- TAG_UNASSIGNED_20 (tags 0x20 to 0x3F, not in the registry): R269. -/
  | tagUnassigned20 (low : BitVec 5) (len : Half) (value : List Byte)
  /-- TAG_UNASSIGNED_40 (tags 0x40 to 0x7F, not in the registry): R269. -/
  | tagUnassigned40 (low : BitVec 6) (len : Half) (value : List Byte)
  /-- TAG_UNASSIGNED_80 (tags 0x80 to 0xFF, not in the registry): R269. -/
  | tagUnassigned80 (low : BitVec 7) (len : Half) (value : List Byte)
  deriving DecidableEq, Repr

/-- The operands every TLV has: the tag length field and the value bytes (R125). -/
def Instr.operands : Instr → Half × List Byte
  | .tagSsthRequest len value => (len, value)
  | .tagServiceRequest len value => (len, value)
  | .tagServiceResponse len value => (len, value)
  | .tagUnknown3 len value => (len, value)
  | .tagSyncParams len value => (len, value)
  | .tagElectionParams len value => (len, value)
  | .tagServiceParameters len value => (len, value)
  | .tagEdrCapabilities len value => (len, value)
  | .tagEdrOperation len value => (len, value)
  | .tagInfra len value => (len, value)
  | .tagInvite len value => (len, value)
  | .tagDebugString len value => (len, value)
  | .tagDatapathState len value => (len, value)
  | .tagEncapsulatedIp len value => (len, value)
  | .tagDatapathDebugPacketLive len value => (len, value)
  | .tagDatapathDebugAfLive len value => (len, value)
  | .tagArpa len value => (len, value)
  | .tagIeee80211Container len value => (len, value)
  | .tagChannelSequence len value => (len, value)
  | .tagUnknown19 len value => (len, value)
  | .tagSyncTree len value => (len, value)
  | .tagVersion len value => (len, value)
  | .tagBloomFilter len value => (len, value)
  | .tagNanSync len value => (len, value)
  | .tagElectionParamsV2 len value => (len, value)
  | .tagUnassigned19 len value => (len, value)
  | .tagUnassigned1A _ len value => (len, value)
  | .tagUnassigned1C _ len value => (len, value)
  | .tagUnassigned20 _ len value => (len, value)
  | .tagUnassigned40 _ len value => (len, value)
  | .tagUnassigned80 _ len value => (len, value)

/-- The tag length field of a TLV (R126). -/
def Instr.len (i : Instr) : Half := i.operands.1

/-- The value bytes of a TLV (R125). -/
def Instr.value (i : Instr) : List Byte := i.operands.2

end Sys2Proof
end

