-- ==== Sys2Proof/WellFormed.lean ====
section
/-! DEFINITION. When a TLV term is an encodable TLV: its value has exactly as many bytes as its tag
length field says (R125: "exactly `tag length` bytes"). Everything else an encoding could get wrong is
excluded by the operands' types. -/

namespace Sys2Proof

/-- The tag length is the "byte count of payload only" (R125). -/
def Instr.wf (i : Instr) : Bool := i.value.length == i.len.toNat

end Sys2Proof
end

