-- ==== Sys2Proof/Decode.lean ====
section
/-! DEFINITION. Decoding a TLV from bytes (R125 to R127, R136, R137) and encoding it back. Total on
any bytes; a byte list that holds no whole TLV is rejected by name. -/

namespace Sys2Proof

/-- `LE(b0, ..., b(n-1))`: the unsigned little-endian number of a byte sequence (R18, R83). -/
def le : List Byte → Nat
  | [] => 0
  | b :: bs => b.toNat + 256 * le bs

/-- The 16-bit little-endian tag length from bytes 1 and 2 of a TLV (R126). -/
def le16 (lo hi : Byte) : Half := hi ++ lo

/-- The `n` low bytes of a number, least significant first: the inverse of `le`. -/
def bytesOf : Nat → Nat → List Byte
  | 0, _ => []
  | n + 1, v => BitVec.ofNat 8 v :: bytesOf n (v / 256)

/-- A row of `spec/opcode_table.json`: a tag byte belongs to it when the masked bits equal `pattern`. -/
structure OpcodeRow where
  op : Opcode
  pattern : Byte
  mask : Byte
  deriving DecidableEq, Repr

/-- The exact match of a tag byte with a row (R137). -/
def rowMatches (tag : Byte) (r : OpcodeRow) : Bool := tag &&& r.mask == r.pattern

/-- `spec/opcode_table.json`: tags 0 to 15. -/
def opcodeTableLow : List OpcodeRow := [
  ⟨.ssthRequest, 0x00, 0xFF⟩,
  ⟨.serviceRequest, 0x01, 0xFF⟩,
  ⟨.serviceResponse, 0x02, 0xFF⟩,
  ⟨.unknown3, 0x03, 0xFF⟩,
  ⟨.syncParams, 0x04, 0xFF⟩,
  ⟨.electionParams, 0x05, 0xFF⟩,
  ⟨.serviceParameters, 0x06, 0xFF⟩,
  ⟨.edrCapabilities, 0x07, 0xFF⟩,
  ⟨.edrOperation, 0x08, 0xFF⟩,
  ⟨.infra, 0x09, 0xFF⟩,
  ⟨.invite, 0x0A, 0xFF⟩,
  ⟨.debugString, 0x0B, 0xFF⟩,
  ⟨.datapathState, 0x0C, 0xFF⟩,
  ⟨.encapsulatedIp, 0x0D, 0xFF⟩,
  ⟨.datapathDebugPacketLive, 0x0E, 0xFF⟩,
  ⟨.datapathDebugAfLive, 0x0F, 0xFF⟩]

/-- `spec/opcode_table.json`: tags 16 to 255. -/
def opcodeTableHigh : List OpcodeRow := [
  ⟨.arpa, 0x10, 0xFF⟩,
  ⟨.ieee80211Container, 0x11, 0xFF⟩,
  ⟨.channelSequence, 0x12, 0xFF⟩,
  ⟨.unknown19, 0x13, 0xFF⟩,
  ⟨.syncTree, 0x14, 0xFF⟩,
  ⟨.version, 0x15, 0xFF⟩,
  ⟨.bloomFilter, 0x16, 0xFF⟩,
  ⟨.nanSync, 0x17, 0xFF⟩,
  ⟨.electionParamsV2, 0x18, 0xFF⟩,
  ⟨.unassigned19, 0x19, 0xFF⟩,
  ⟨.unassigned1A, 0x1A, 0xFE⟩,
  ⟨.unassigned1C, 0x1C, 0xFC⟩,
  ⟨.unassigned20, 0x20, 0xE0⟩,
  ⟨.unassigned40, 0x40, 0xC0⟩,
  ⟨.unassigned80, 0x80, 0x80⟩]

/-- `spec/opcode_table.json`, row by row: the tag map of R136 and R269. -/
def opcodeTable : List OpcodeRow := opcodeTableLow ++ opcodeTableHigh

/-- The rows cover all 256 tag values (R136: "25 to 255 not assigned" included). -/
theorem every_tag_has_row : ∀ tag : Byte, (opcodeTable.find? (rowMatches tag)).isSome = true := by
  decide

/-- The row a tag byte selects. No row needs priority over another, since no two rows overlap (R137). -/
def opcodeOf (tag : Byte) : Opcode :=
  ((opcodeTable.find? (rowMatches tag)).get (every_tag_has_row tag)).op

/-- The TLV with a given tag byte, length field and value; the open tag bits of a masked row become
the operand `low`. -/
def instrOf (tag : Byte) (len : Half) (value : List Byte) : Instr :=
  match opcodeOf tag with
  | .ssthRequest => .tagSsthRequest len value
  | .serviceRequest => .tagServiceRequest len value
  | .serviceResponse => .tagServiceResponse len value
  | .unknown3 => .tagUnknown3 len value
  | .syncParams => .tagSyncParams len value
  | .electionParams => .tagElectionParams len value
  | .serviceParameters => .tagServiceParameters len value
  | .edrCapabilities => .tagEdrCapabilities len value
  | .edrOperation => .tagEdrOperation len value
  | .infra => .tagInfra len value
  | .invite => .tagInvite len value
  | .debugString => .tagDebugString len value
  | .datapathState => .tagDatapathState len value
  | .encapsulatedIp => .tagEncapsulatedIp len value
  | .datapathDebugPacketLive => .tagDatapathDebugPacketLive len value
  | .datapathDebugAfLive => .tagDatapathDebugAfLive len value
  | .arpa => .tagArpa len value
  | .ieee80211Container => .tagIeee80211Container len value
  | .channelSequence => .tagChannelSequence len value
  | .unknown19 => .tagUnknown19 len value
  | .syncTree => .tagSyncTree len value
  | .version => .tagVersion len value
  | .bloomFilter => .tagBloomFilter len value
  | .nanSync => .tagNanSync len value
  | .electionParamsV2 => .tagElectionParamsV2 len value
  | .unassigned19 => .tagUnassigned19 len value
  | .unassigned1A => .tagUnassigned1A (tag.extractLsb' 0 1) len value
  | .unassigned1C => .tagUnassigned1C (tag.extractLsb' 0 2) len value
  | .unassigned20 => .tagUnassigned20 (tag.extractLsb' 0 5) len value
  | .unassigned40 => .tagUnassigned40 (tag.extractLsb' 0 6) len value
  | .unassigned80 => .tagUnassigned80 (tag.extractLsb' 0 7) len value

/-- Why a byte list is refused. Both are the TRUNCATED_TLV conditions of R217 and R218. -/
inductive DecodeError where
  /-- fewer than the 3 bytes of a tag header remain (R217) -/
  | truncatedHeader
  /-- fewer bytes remain than the tag length says (R218) -/
  | truncatedValue
  deriving DecidableEq, Repr

/-- Decode the TLV at the head of a byte list; answers it with the bytes after it (R125, R127). -/
def decode : List Byte → Except DecodeError (Instr × List Byte)
  | tag :: lo :: hi :: rest =>
    if (le16 lo hi).toNat ≤ rest.length then
      .ok (instrOf tag (le16 lo hi) (rest.take (le16 lo hi).toNat), rest.drop (le16 lo hi).toNat)
    else .error .truncatedValue
  | _ => .error .truncatedHeader

/-- The tag byte of an instruction: its row's pattern with the operand `low` in the open bits. -/
def Instr.tag : Instr → Byte
  | .tagSsthRequest _ _ => 0x00
  | .tagServiceRequest _ _ => 0x01
  | .tagServiceResponse _ _ => 0x02
  | .tagUnknown3 _ _ => 0x03
  | .tagSyncParams _ _ => 0x04
  | .tagElectionParams _ _ => 0x05
  | .tagServiceParameters _ _ => 0x06
  | .tagEdrCapabilities _ _ => 0x07
  | .tagEdrOperation _ _ => 0x08
  | .tagInfra _ _ => 0x09
  | .tagInvite _ _ => 0x0A
  | .tagDebugString _ _ => 0x0B
  | .tagDatapathState _ _ => 0x0C
  | .tagEncapsulatedIp _ _ => 0x0D
  | .tagDatapathDebugPacketLive _ _ => 0x0E
  | .tagDatapathDebugAfLive _ _ => 0x0F
  | .tagArpa _ _ => 0x10
  | .tagIeee80211Container _ _ => 0x11
  | .tagChannelSequence _ _ => 0x12
  | .tagUnknown19 _ _ => 0x13
  | .tagSyncTree _ _ => 0x14
  | .tagVersion _ _ => 0x15
  | .tagBloomFilter _ _ => 0x16
  | .tagNanSync _ _ => 0x17
  | .tagElectionParamsV2 _ _ => 0x18
  | .tagUnassigned19 _ _ => 0x19
  | .tagUnassigned1A low _ _ => 13#7 ++ low
  | .tagUnassigned1C low _ _ => 7#6 ++ low
  | .tagUnassigned20 low _ _ => 1#3 ++ low
  | .tagUnassigned40 low _ _ => 1#2 ++ low
  | .tagUnassigned80 low _ _ => 1#1 ++ low

/-- The bytes of a TLV (R125, R144: `tag, L mod 256, L div 256, bytes`). -/
def encode (i : Instr) : List Byte :=
  i.tag :: i.len.extractLsb' 0 8 :: i.len.extractLsb' 8 8 :: i.value

/-- The first `n` bytes of a table word: byte `k` is bits 8k+7..8k, and every bit at or above
`nbits` is 0. -/
def tableBytes (nbits w n : Nat) : List Byte := bytesOf n (w % 2 ^ nbits)

/-- The instruction a table word denotes: bytes laid out lowest address first, zeros above `nbits`.
The value has as many bytes as the length field says. -/
def decodeTableWord (nbits w : Nat) : Option Instr :=
  match decode (tableBytes nbits w (3 + le ((tableBytes nbits w 3).drop 1))) with
  | .ok (i, _) => some i
  | .error _ => none

end Sys2Proof
end

