-- ==== Sys2Proof/Config.lean ====
section
/-! DEFINITION. What an implementation fixes (R11 to R14) and the free values the spec leaves open
(`93_implementation_defined.md`). A free value is an opaque constant: no proof can see what it is. -/

namespace Sys2Proof

/-- How IN_FTYPE packs the 802.11 type and subtype (R13, `90_conflicts.md` C3). -/
inductive PackedTypeLayout where
  /-- type in bits [1:0], subtype in bits [5:2], bits [7:6] zero (the default) -/
  | dot11Type6
  /-- version in bits [1:0], type in bits [3:2], subtype in bits [7:4] -/
  | fc8
  deriving DecidableEq, Repr

/-- The implementation parameters P1 to P4 (R11 to R14). -/
structure Params where
  /-- MAX_FRAME_LEN (R11) -/
  maxFrameLen : Nat
  /-- MAX_TLVS (R12) -/
  maxTlvs : Nat
  /-- PACKED_TYPE_LAYOUT (R13) -/
  packedTypeLayout : PackedTypeLayout
  /-- SYNC_SCALAR_LEN (R14) -/
  syncScalarLen : Nat
  deriving DecidableEq, Repr

/-- The defaults of R11 to R14; MAX_TLVS is `floor((MAX_FRAME_LEN - 16) / 3)` = 1360. -/
def Params.default : Params :=
  { maxFrameLen := 4096, maxTlvs := (4096 - 16) / 3, packedTypeLayout := .dot11Type6, syncScalarLen := 1 }

/-- The ranges of R11, R12 and R14. -/
abbrev Params.valid (p : Params) : Prop :=
  (16 ≤ p.maxFrameLen ∧ p.maxFrameLen ≤ 65535) ∧ (1 ≤ p.maxTlvs ∧ p.maxTlvs ≤ 21845) ∧
    (1 ≤ p.syncScalarLen ∧ p.syncScalarLen ≤ 255)

/-- The value IBUF byte `i` holds from reset number `epoch` until it is written (R49, I3).
DESIGN CHOICE, safe: log 4. -/
opaque Config.ibufAtReset (epoch i : Nat) : Byte

/-- The value PBUF byte `i` holds from reset number `epoch` until it is written (R49, I3).
DESIGN CHOICE, safe: log 4. -/
opaque Config.pbufAtReset (epoch i : Nat) : Byte

/-- The TAG, LEN, POFF and KIND table entry `i` holds from reset number `epoch` until it is written
(R53, I1). DESIGN CHOICE, safe: log 6. -/
opaque Config.tlvtAtReset (epoch i : Nat) : Byte × Half × Half × Kind

/-- What the `n`-th host read returns where the spec leaves its value unspecified (R57, R168, I2, I4).
DESIGN CHOICE, safe: logs 5, 19 and 20. -/
opaque Config.freeRead (n : Nat) : Word

/-- Whether an 8-bit or an aligned 16-bit transaction to the reserved range 0x30000 to 0x3FFFF is
legal; R86 and R87 do not say. DESIGN CHOICE, safe: log 7. -/
opaque Config.reservedNarrowLegal : Bool

end Sys2Proof
end

