-- ==== Sys2Proof/Machine/State.lean ====
section
/-! DEFINITION. The state of the TLV stream parser as plain data (`10_state.md`) and its value after
reset (`70_reset_and_hazards.md` R382). -/

namespace Sys2Proof.Machine

/-- A sparse array: (index, value) pairs, indices strictly rising. An unlisted index has not been
written since reset. -/
abbrev Store (α : Type) := List (Nat × α)

/-- A byte buffer (IBUF, PBUF): the bytes written since reset, at strictly rising offsets. -/
abbrev Memory := List Host.Cell

/-- The canonical form of a sparse array with indices below `cap`. Unlisted indices hold no written
value, so no listed entry equals what an unlisted one holds (log 4). -/
abbrev Store.wf {α : Type} (cap : Nat) (m : Store α) : Prop :=
  m.Pairwise (fun x y => x.1 < y.1) ∧ ∀ c ∈ m, c.1 < cap

/-- The canonical form of a buffer of `cap` bytes. -/
abbrev Memory.wf (cap : Nat) (m : Memory) : Prop := Store.wf cap m

/-- PHASE (R51, R160). -/
inductive Phase where
  | idle
  | classify
  | header
  | seg
  | dispatch
  | done
  | error
  deriving DecidableEq, Repr

/-- ERR.CODE: the error codes of R341; the codes 0x0A to 0xFF are never written. -/
inductive ErrCode where
  /-- 0x00 NONE -/
  | none
  /-- 0x01 -/
  | clsNotMgmtAction
  /-- 0x02 -/
  | clsBssidMismatch
  /-- 0x03 -/
  | clsCategoryMismatch
  /-- 0x04 -/
  | clsOuiMismatch
  /-- 0x05 -/
  | truncatedHeader
  /-- 0x06 -/
  | truncatedTlv
  /-- 0x07 -/
  | truncatedTlvPayload
  /-- 0x08 -/
  | outOfBounds
  /-- 0x09 -/
  | tlvTableOverflow
  deriving DecidableEq, Repr

/-- An entry of the TLV table (R53, R219). -/
structure TlvEntry where
  tag : Byte
  len : Half
  poff : Half
  kind : Kind
  deriving DecidableEq, Repr

/-- A host transaction (R30, R87). The width is in bits, any number, so that illegal widths can be
asked for. Write data stands in the low bits. -/
inductive HostOp where
  | read (width : Nat) (addr : BusAddr)
  | write (width : Nat) (addr : BusAddr) (data : Word)
  deriving DecidableEq, Repr

/-- What happens next (R92, R161, R380): a turn of the parser, a host transaction or `rst`. -/
inductive Input where
  | parser
  | host (op : HostOp)
  | rst
  deriving DecidableEq, Repr

/-- The response of a host transaction: read data (zero-extended from its width), the acknowledgement
of a write (effective, ignored or dropped), or BUS_ERR (R348). -/
inductive Response where
  | data (v : Word)
  | ack
  | busErr
  deriving DecidableEq, Repr

/-- Everything the spec gives the block, the parameters it is built with, and four fields of the
model's own (INVENTORY.md, State). -/
structure State where
  /-- the implementation parameters P1 to P4, constant (R11 to R14; log 1) -/
  params : Params
  /-- CTRL.IE (R32) -/
  ie : Bool
  /-- CTRL.PFE (R32) -/
  pfe : Bool
  /-- STATUS.IRQ_PEND (R33) -/
  irqPend : Bool
  /-- STATUS.WDROP (R33) -/
  wdrop : Bool
  /-- STATUS.PERR (R33) -/
  perr : Bool
  /-- ERR.CODE (R34) -/
  errCode : ErrCode
  /-- ERR.TAG (R34) -/
  errTag : Byte
  /-- IN_LEN (R37) -/
  inLen : Half
  /-- IN_FTYPE (R38) -/
  inFtype : Byte
  /-- IN_BSSID_LO, BSSID bytes 0 to 3 (R39) -/
  inBssidLo : Word
  /-- IN_BSSID_HI, BSSID bytes 4 and 5 (R40) -/
  inBssidHi : Half
  /-- ENTRY_SEL (R41) -/
  entrySel : Half
  /-- HDR0 (R42) -/
  hdr0 : Word
  /-- HDR1 (R43) -/
  hdr1 : Word
  /-- PHY_TX_TIME (R44) -/
  phyTxTime : Word
  /-- TARGET_TX_TIME (R45) -/
  targetTxTime : Word
  /-- TLV_COUNT (R46) -/
  tlvCount : Half
  /-- IBUF, the bytes written since reset (R49) -/
  ibuf : Memory
  /-- PBUF, the bytes written since reset (R49) -/
  pbuf : Memory
  /-- TLVT, the entries written since reset (R53) -/
  tlvt : Store TlvEntry
  /-- CURSOR, the program counter (R50) -/
  cursor : Half
  /-- PHASE (R51) -/
  phase : Phase
  /-- TIDX (R52) -/
  tidx : Half
  /-- DIDX (R52) -/
  didx : Half
  /-- PWR (R52) -/
  pwr : Half
  /-- the model's own: how many resets have happened (log 4) -/
  epoch : Nat
  /-- the model's own: how many host reads have happened (log 5) -/
  reads : Nat
  /-- the model's own: the inputs still to come, next first (log 2) -/
  schedule : List Input
  /-- the model's own: the responses of past host transactions, newest first (log 3) -/
  responses : List Response
  deriving DecidableEq, Repr

/-- Reasons for which a step can stop. -/
inductive Fault where
  /-- `exec` was asked to run a TLV in a phase that has no TLV step (IDLE, CLASSIFY, HEADER, DONE,
  ERROR; R161). Raised by the meanings when called directly in such a phase, never by `step`, which
  calls `exec` in SEG and DISPATCH only. Safe: the model stops where the spec has no such step (log 8). -/
  | noTlvStep
  deriving DecidableEq, Repr

/-- Reasons for which an instruction has no meaning in the model. -/
inductive Refusal where
  /-- An arm of `exec` whose instruction is not modelled yet. Safe. No arm answers it: every
  instruction has its meaning. -/
  | notModelled (mnemonic : String)
  deriving DecidableEq, Repr

/-- The block after reset (R382), at the default parameters of R11 to R14. Buffers and table list
nothing: their contents are unspecified (R49, R53). The model's own fields start empty or at 0
(DESIGN CHOICE: logs 2 to 5). -/
def State.reset : State where
  params := Params.default
  ie := false
  pfe := false
  irqPend := false
  wdrop := false
  perr := false
  errCode := .none
  errTag := 0
  inLen := 0
  inFtype := 0
  inBssidLo := 0
  inBssidHi := 0
  entrySel := 0
  hdr0 := 0
  hdr1 := 0
  phyTxTime := 0
  targetTxTime := 0
  tlvCount := 0
  ibuf := []
  pbuf := []
  tlvt := []
  cursor := 0
  phase := .idle
  tidx := 0
  didx := 0
  pwr := 0
  epoch := 0
  reads := 0
  schedule := []
  responses := []

end Sys2Proof.Machine
end

