-- ==== Sys2Proof/Machine/Ops.lean ====
section
/-! DEFINITION. The named operations over buffers, table and registers: the ByteFieldReader
(`20_memory.md` R80 to R84), PBUF and TLVT writes (`43_tlv_stream.md` R219, R222), the raise and the
finish of a decode (`40_fsm_control.md` R166, R167) and START (R162). -/

namespace Sys2Proof.Machine

/-! Sparse arrays -/

/-- The value written at an index since reset, if any. -/
def Store.get? {α : Type} : Store α → Nat → Option α
  | [], _ => none
  | (k, v) :: rest, i => if i = k then some v else Store.get? rest i

/-- Write one index, keeping the indices strictly rising. -/
def Store.set {α : Type} : Store α → Nat → α → Store α
  | [], i, x => [(i, x)]
  | (k, v) :: rest, i, x =>
    if i < k then (i, x) :: (k, v) :: rest
    else if i = k then (i, x) :: rest
    else (k, v) :: Store.set rest i x

/-- Write a byte sequence from offset `at`; offsets at or beyond `cap` are not part of the buffer and
are left out (R88, R170; log 13). -/
def Memory.writeBytes (cap : Nat) : Memory → Nat → List Byte → Memory
  | m, _, [] => m
  | m, off, b :: bs =>
    if off < cap then Memory.writeBytes cap (Store.set m off b) (off + 1) bs else m

/-! Reading buffers and table -/

/-- IBUF[i] (R49): the byte written, or the free value it has held since reset (I3, log 4). -/
def State.ibufByte (s : State) (i : Nat) : Byte :=
  (Store.get? s.ibuf i).getD (Config.ibufAtReset s.epoch i)

/-- PBUF[i] (R49): the byte written, or the free value it has held since reset (I3, log 4). -/
def State.pbufByte (s : State) (i : Nat) : Byte :=
  (Store.get? s.pbuf i).getD (Config.pbufAtReset s.epoch i)

/-- The entry a table slot holds when nothing has written it since reset (R53, I1; log 6). -/
def entryAtReset (epoch i : Nat) : TlvEntry :=
  { tag := (Config.tlvtAtReset epoch i).1
    len := (Config.tlvtAtReset epoch i).2.1
    poff := (Config.tlvtAtReset epoch i).2.2.1
    kind := (Config.tlvtAtReset epoch i).2.2.2 }

/-- TLVT[i] (R53). -/
def State.entry (s : State) (i : Nat) : TlvEntry :=
  (Store.get? s.tlvt i).getD (entryAtReset s.epoch i)

/-- The payload copy of a table entry, `PBUF[POFF .. POFF + LEN)` (R222). -/
def State.payloadOf (s : State) (e : TlvEntry) : List Byte :=
  (List.range e.len.toNat).map (fun k => s.pbufByte (e.poff.toNat + k))

/-- `MemBytes(addr, n)` (R18, R81): the bytes `IBUF[addr .. addr + n)`, after the bounds check
`addr + n <= IN_LEN` in unbounded integers. The check is the defensive OUT_OF_BOUNDS of R81 (log 12). -/
def State.memBytes (s : State) (addr n : Nat) : Except ErrCode (List Byte) :=
  if s.inLen.toNat < addr + n ∨ s.params.maxFrameLen < s.inLen.toNat then .error .outOfBounds
  else .ok ((List.range n).map (fun k => s.ibufByte (addr + k)))

/-- `MemRead(addr, n)` (R18, R81): the same bytes as an unsigned little-endian number. -/
def State.memRead (s : State) (addr n : Nat) : Except ErrCode Nat :=
  (s.memBytes addr n).map le

/-! Phases -/

/-- The block is BUSY in CLASSIFY, HEADER, SEG and DISPATCH (R51); exactly then the parser has a step
(R161). -/
def Phase.busy : Phase → Bool
  | .idle => false
  | .classify => true
  | .header => true
  | .seg => true
  | .dispatch => true
  | .done => false
  | .error => false

/-! Taking an exception, and the way back -/

/-- `raise E(tag)` (R166, R353): the single way a decode fails. Saves the code and the tag, clears the
header registers, TLV_COUNT and PERR, sets IRQ_PEND and enters ERROR. Nothing else is saved or
changed: table, PBUF, cursor and counters stay as they are. -/
def State.raise (e : ErrCode) (tag : Byte) (s : State) : State :=
  { s with
    errCode := e, errTag := tag,
    hdr0 := 0, hdr1 := 0, phyTxTime := 0, targetTxTime := 0, tlvCount := 0,
    perr := false, irqPend := true, phase := .error }

/-- START (R162), the only way out of ERROR (R355), and of IDLE and DONE: clears ERR, the flags, every
result register, the cursor and the counters, and enters CLASSIFY. IE and PFE are written by the same
CTRL write before (`writeCtrl`). -/
def State.start (s : State) : State :=
  { s with
    errCode := .none, errTag := 0, irqPend := false, wdrop := false, perr := false,
    hdr0 := 0, hdr1 := 0, phyTxTime := 0, targetTxTime := 0, tlvCount := 0,
    cursor := 0, tidx := 0, didx := 0, pwr := 0, phase := .classify }

/-- `Finish()` (R167): the Frame record becomes readable. -/
def State.finish (s : State) : State :=
  { s with tlvCount := s.tidx, irqPend := true, phase := .done }

/-- `rst` (R380, R381): every register at its reset value, PHASE IDLE, the contents of buffers and
table unspecified anew. The parameters are the block's own, and the schedule, the responses and the
free-value counters belong to the environment: they are kept (log 16). -/
def State.rst (s : State) : State :=
  { State.reset with
    params := s.params, epoch := s.epoch + 1, reads := s.reads,
    schedule := s.schedule, responses := s.responses }

/-! The two steps of a TLV -/

/-- The part of SegStep after the TLV has been read (R215, R219 to R222): table overflow, else the
payload copy, the table entry and the advance of TIDX, PWR and the cursor. -/
def State.acceptTlv (tag : Byte) (len : Half) (value : List Byte) (s : State) : State :=
  if s.tidx.toNat = s.params.maxTlvs then s.raise .tlvTableOverflow 0
  else
    { s with
      pbuf := Memory.writeBytes s.params.maxFrameLen s.pbuf s.pwr.toNat value
      tlvt := Store.set s.tlvt s.tidx.toNat { tag := tag, len := len, poff := s.pwr, kind := .none }
      tidx := s.tidx + 1
      pwr := s.pwr + len
      cursor := s.cursor + 3 + len }

/-- `TLVT[DIDX].KIND <- k` (R240). -/
def State.setKind (k : Kind) (s : State) : State :=
  { s with tlvt := Store.set s.tlvt s.didx.toNat { s.entry s.didx.toNat with kind := k } }

/-- The part of DispatchStep for one entry (R240, R242): KIND, then for a short payload either the
TRUNCATED_TLV_PAYLOAD raise naming the tag (PFE = 1) or PERR, then the next entry. -/
def State.dispatchTlv (tag : Byte) (k : Kind) (s : State) : State :=
  if k = .truncatedPayload then
    if s.pfe then (s.setKind k).raise .truncatedTlvPayload tag
    else { s.setKind k with perr := true, didx := s.didx + 1 }
  else { s.setKind k with didx := s.didx + 1 }

/-- One TLV step: the SEG step of the TLV or its DISPATCH step, as PHASE says (R161; log 8). -/
def tlvStep (tag : Byte) (len : Half) (value : List Byte) (k : Kind) (s : State) :
    Host.Outcome State Fault Refusal :=
  match s.phase with
  | .seg => .next (s.acceptTlv tag len value)
  | .dispatch => .next (s.dispatchTlv tag k)
  | .idle => .fault .noTlvStep
  | .classify => .fault .noTlvStep
  | .header => .fault .noTlvStep
  | .done => .fault .noTlvStep
  | .error => .fault .noTlvStep

end Sys2Proof.Machine
end

