-- ==== Sys2Proof/Machine/Operands.lean ====
section
/-! DEFINITION. The formats of the block with every field at its offset and width (`30_encoding.md`
R121 to R135), the assembly of a field, the minimum lengths and the KIND they give (R241, R242), and
the FIELD window (R54). -/

namespace Sys2Proof.Machine

/-! Layouts -/

/-- The fields of the four payload formats (R129 to R132). -/
inductive FieldName where
  | scalarPrefix
  | masterAddress
  | otherAddress
  | padding
  | flags
  | id
  | distance
  | unknown
  | masterMetric
  | selfMetric
  | masterCount
  | reserved
  | selfCounter
  | numChannels
  | encoding
  | duplicate
  | stepCount
  | fillChannel
  /-- SYNC channel list entry j: flag -/
  | chanFlag (j : Nat)
  /-- SYNC channel list entry j: channel number -/
  | chanNumber (j : Nat)
  /-- CHSEQ channel list entry j: channel number -/
  | channel (j : Nat)
  /-- CHSEQ channel list entry j: operating class -/
  | opClass (j : Nat)
  deriving DecidableEq, Repr

/-- One line of a format table: offset and width in bytes from the first payload byte; a scalar is
shown in the FIELD window, a raw field is read from PBUF. -/
structure FieldSpec where
  name : FieldName
  offset : Nat
  width : Nat
  scalar : Bool
  deriving DecidableEq, Repr

/-- The payload formats of the recognized tags (R120). -/
inductive Format where
  | sync
  | electionV1
  | channelSeq
  | electionV2
  deriving DecidableEq, Repr

/-- SYNC format, tag 4, with `S = SYNC_SCALAR_LEN` (R129, R290). -/
def syncLayout (scalarLen : Nat) : List FieldSpec :=
  [⟨.scalarPrefix, 0, scalarLen, false⟩, ⟨.masterAddress, scalarLen, 6, false⟩] ++
  (List.range 16).flatMap (fun j =>
    [⟨.chanFlag j, scalarLen + 6 + 2 * j, 1, true⟩, ⟨.chanNumber j, scalarLen + 7 + 2 * j, 1, true⟩]) ++
  [⟨.padding, scalarLen + 38, 2, false⟩]

/-- ELEC1 format, tag 5 (R130, R305). -/
def electionV1Layout : List FieldSpec :=
  [⟨.flags, 0, 1, true⟩, ⟨.id, 1, 2, true⟩, ⟨.distance, 3, 1, true⟩, ⟨.unknown, 4, 1, true⟩,
   ⟨.masterAddress, 5, 6, false⟩, ⟨.masterMetric, 11, 4, true⟩, ⟨.selfMetric, 15, 4, true⟩,
   ⟨.padding, 19, 2, false⟩]

/-- ELEC2 format, tag 24 (R131, R315). -/
def electionV2Layout : List FieldSpec :=
  [⟨.masterAddress, 0, 6, false⟩, ⟨.otherAddress, 6, 6, false⟩, ⟨.masterCount, 12, 4, true⟩,
   ⟨.distance, 16, 4, true⟩, ⟨.masterMetric, 20, 4, true⟩, ⟨.selfMetric, 24, 4, true⟩,
   ⟨.unknown, 28, 4, true⟩, ⟨.reserved, 32, 4, true⟩, ⟨.selfCounter, 36, 4, true⟩]

/-- CHSEQ format, tag 18 (R132, R325). The list has 16 entries whatever num-channels holds (R328). -/
def channelSeqLayout : List FieldSpec :=
  [⟨.numChannels, 0, 1, true⟩, ⟨.encoding, 1, 1, true⟩, ⟨.duplicate, 2, 1, true⟩,
   ⟨.stepCount, 3, 1, true⟩, ⟨.fillChannel, 4, 2, true⟩] ++
  (List.range 16).flatMap (fun j => [⟨.channel j, 6 + 2 * j, 1, true⟩, ⟨.opClass j, 7 + 2 * j, 1, true⟩]) ++
  [⟨.padding, 38, 3, false⟩]

/-- The layout of a payload format under given parameters. -/
def layout (p : Params) : Format → List FieldSpec
  | .sync => syncLayout p.syncScalarLen
  | .electionV1 => electionV1Layout
  | .channelSeq => channelSeqLayout
  | .electionV2 => electionV2Layout

/-- The minimum payload length of a format (R241, R242, R291, R307, R317, R327). -/
def minLen (p : Params) : Format → Nat
  | .sync => p.syncScalarLen + 40
  | .electionV1 => 21
  | .channelSeq => 41
  | .electionV2 => 40

/-- The KIND of a payload that has its format's minimum length (R53). -/
def Format.kind : Format → Kind
  | .sync => .sync
  | .electionV1 => .electionV1
  | .channelSeq => .channelSeq
  | .electionV2 => .electionV2

/-- The minimum-length check of a recognized tag (R241, R242): it compares LEN only. -/
def kindByLength (p : Params) (f : Format) (len : Half) : Kind :=
  if minLen p f ≤ len.toNat then f.kind else .truncatedPayload

/-- PayloadKind (R241): what dispatching a TLV with this tag and length gives. -/
def payloadKind (p : Params) (tag : Byte) (len : Half) : Kind :=
  if tag = 4 then kindByLength p .sync len
  else if tag = 5 then kindByLength p .electionV1 len
  else if tag = 18 then kindByLength p .channelSeq len
  else if tag = 24 then kindByLength p .electionV2 len
  else .unrecognized

/-- The format in which an entry of a kind is decoded; NONE, UNRECOGNIZED and TRUNCATED_PAYLOAD have
none (R54, R270). -/
def formatOf? : Kind → Option Format
  | .none => none
  | .sync => some .sync
  | .electionV1 => some .electionV1
  | .channelSeq => some .channelSeq
  | .electionV2 => some .electionV2
  | .unrecognized => none
  | .truncatedPayload => none

/-! Field assembly -/

/-- The raw bytes of a field, `p[o .. o + w)`, unmodified (R135). -/
def FieldSpec.raw (f : FieldSpec) (payload : List Byte) : List Byte := (payload.drop f.offset).take f.width

/-- A scalar field: `LE(p[o], ..., p[o + w - 1])` zero-extended to 32 bits (R135). -/
def FieldSpec.value (f : FieldSpec) (payload : List Byte) : Word := BitVec.ofNat 32 (le (f.raw payload))

/-- A named field of a payload decoded in a format: its raw bytes (R129 to R132, R293, R306, R316, R326). -/
def fieldRaw? (p : Params) (f : Format) (n : FieldName) (payload : List Byte) : Option (List Byte) :=
  ((layout p f).find? (fun x => x.name == n)).map (·.raw payload)

/-- The scalar fields of a format, in FIELD order (R292, R306, R316, R326). -/
def scalarFields (p : Params) (f : Format) : List FieldSpec := (layout p f).filter (·.scalar)

/-- Scalar field `k` of a payload decoded in a format; 0 at or beyond the scalar-field count (R54). -/
def scalarValue (p : Params) (f : Format) (payload : List Byte) (k : Nat) : Word :=
  match (scalarFields p f)[k]? with
  | some x => x.value payload
  | none => 0

/-- FIELD[k] of a table entry, a pure function of its kind and payload copy (R54, R246, R270). -/
def State.fieldOf (s : State) (e : TlvEntry) (k : Nat) : Word :=
  match formatOf? e.kind with
  | some f => scalarValue s.params f (s.payloadOf e) k
  | none => 0

/-! Input and header formats -/

/-- The 802.11 type, the subtype and whether the bits outside the code are as required, from the packed
code (FTYPE format, R121, R182). -/
def ftypeFields (l : PackedTypeLayout) (ft : Byte) : BitVec 2 × BitVec 4 × Bool :=
  match l with
  | .dot11Type6 => (ft.extractLsb' 0 2, ft.extractLsb' 2 4, ft.extractLsb' 6 2 == 0)
  | .fc8 => (ft.extractLsb' 2 2, ft.extractLsb' 4 4, true)

/-- BSSID[0..5] from IN_BSSID_LO and IN_BSSID_HI, byte 0 first (R39, R40, R85). -/
def State.bssid (s : State) : List Byte :=
  [s.inBssidLo.extractLsb' 0 8, s.inBssidLo.extractLsb' 8 8, s.inBssidLo.extractLsb' 16 8,
   s.inBssidLo.extractLsb' 24 8, s.inBssidHi.extractLsb' 0 8, s.inBssidHi.extractLsb' 8 8]

/-- PTYPE, payload byte 4 (R43, R202). -/
def State.ptype (s : State) : Byte := s.hdr1.extractLsb' 0 8

/-- VER_MINOR, the low nibble of payload byte 5 (R43, R124). -/
def State.verMinor (s : State) : BitVec 4 := s.hdr1.extractLsb' 8 4

/-- VER_MAJOR, the high nibble of payload byte 5 (R43, R124). -/
def State.verMajor (s : State) : BitVec 4 := s.hdr1.extractLsb' 12 4

/-- SUBTYPE, payload byte 6 (R43, R202). -/
def State.subtype (s : State) : Byte := s.hdr1.extractLsb' 16 8

/-- RESERVED, payload byte 7 (R43, R202). -/
def State.reservedByte (s : State) : Byte := s.hdr1.extractLsb' 24 8

end Sys2Proof.Machine
end

