-- ==== Sys2Proof/Machine/Flags.lean ====
section
/-! DEFINITION. The status and control words as the host sees them (`10_state.md` R31 to R36, R47, R48),
the numbers of the error codes and kinds, and the interrupt output (R56). -/

namespace Sys2Proof.Machine

/-- STATUS.STATE of a phase (R33, R51): 0 IDLE, 1 BUSY, 2 DONE, 3 ERROR. -/
def Phase.stateField : Phase → BitVec 2
  | .idle => 0
  | .classify => 1
  | .header => 1
  | .seg => 1
  | .dispatch => 1
  | .done => 2
  | .error => 3

/-- The number of an error code (R341). -/
def ErrCode.code : ErrCode → Byte
  | .none => 0x00
  | .clsNotMgmtAction => 0x01
  | .clsBssidMismatch => 0x02
  | .clsCategoryMismatch => 0x03
  | .clsOuiMismatch => 0x04
  | .truncatedHeader => 0x05
  | .truncatedTlv => 0x06
  | .truncatedTlvPayload => 0x07
  | .outOfBounds => 0x08
  | .tlvTableOverflow => 0x09

/-- The number of a kind (R53). -/
def kindCode : Kind → Byte
  | .none => 0
  | .sync => 1
  | .electionV1 => 2
  | .channelSeq => 3
  | .electionV2 => 4
  | .unrecognized => 5
  | .truncatedPayload => 6

/-- ID (R4, R31): "TSP" and block revision 0x01. -/
def idWord : Word := 0x54535001

/-- CTRL as read (R32): START reads 0, IE in bit 1, PFE in bit 2, the rest 0. -/
def State.ctrlWord (s : State) : Word :=
  0#29 ++ BitVec.ofBool s.pfe ++ BitVec.ofBool s.ie ++ 0#1

/-- STATUS as read (R33): STATE [1:0], IRQ_PEND 2, WDROP 3, PERR 4, the rest 0. -/
def State.statusWord (s : State) : Word :=
  0#27 ++ BitVec.ofBool s.perr ++ BitVec.ofBool s.wdrop ++ BitVec.ofBool s.irqPend ++ s.phase.stateField

/-- ERR as read (R34): CODE [7:0], TAG [15:8], the rest 0. -/
def State.errWord (s : State) : Word := 0#16 ++ s.errTag ++ s.errCode.code

/-- ENTRY_INFO of an entry (R47): TAG [7:0], KIND [15:8], LEN [31:16]. -/
def TlvEntry.infoWord (e : TlvEntry) : Word := e.len ++ kindCode e.kind ++ e.tag

/-- The entry ENTRY_SEL shows: it is shown only in DONE and below TLV_COUNT (R47, R48, R54). -/
def State.selected? (s : State) : Option TlvEntry :=
  if s.phase = .done ∧ s.entrySel.toNat < s.tlvCount.toNat then some (s.entry s.entrySel.toNat) else none

/-- The level-sensitive interrupt output (R56, R350, R351). -/
def State.irq (s : State) : Bool := s.ie && s.irqPend

end Sys2Proof.Machine
end

