-- ==== Sys2Proof/Machine/Bus.lean ====
section
/-! DEFINITION. Host transactions: the address map, widths and alignment (`20_memory.md` R85 to R91), the
register map (`10_state.md` R31 to R57), the write commands (`40_fsm_control.md` R162 to R165), reads
(R168) and writes while BUSY (`70_reset_and_hazards.md` R392). -/

namespace Sys2Proof.Machine

/-! The address map -/

/-- The four ranges of the host address space (R86). -/
inductive Space where
  | csr
  | ibuf
  | pbuf
  | reserved
  deriving DecidableEq, Repr

/-- The range of an address: its bits 17 and 16 (R86). -/
def spaceOf (a : BusAddr) : Space :=
  if a.toNat < 0x10000 then .csr
  else if a.toNat < 0x20000 then .ibuf
  else if a.toNat < 0x30000 then .pbuf
  else .reserved

/-- The offset of an address in its range: its bits 15 to 0 (R86). -/
def offsetOf (a : BusAddr) : Nat := a.toNat % 0x10000

/-- 8 bits anywhere or 16 bits at a 2-aligned address (R87). -/
def narrowAligned (width : Nat) (a : BusAddr) : Bool :=
  width == 8 || (width == 16 && a.toNat % 2 == 0)

/-- 32 bits at a 4-aligned address (R87). -/
def wordAligned (width : Nat) (a : BusAddr) : Bool := width == 32 && a.toNat % 4 == 0

/-- The legal transactions (R87, R348); for the reserved range see log 7. -/
def legalAccess (width : Nat) (a : BusAddr) : Bool :=
  match spaceOf a with
  | .csr => wordAligned width a
  | .ibuf => wordAligned width a || narrowAligned width a
  | .pbuf => wordAligned width a || narrowAligned width a
  | .reserved => wordAligned width a || (narrowAligned width a && Config.reservedNarrowLegal)

/-- The registers of the CSR space (`10_state.md` section 2). -/
inductive Csr where
  | id
  | ctrl
  | status
  | err
  | inLen
  | inFtype
  | inBssidLo
  | inBssidHi
  | hdr0
  | hdr1
  | phyTxTime
  | targetTxTime
  | tlvCount
  | entrySel
  | entryInfo
  | entryPoff
  | field (k : Nat)
  | reserved
  deriving DecidableEq, Repr

/-- The register map (`10_state.md` section 2, R54, R55). -/
def csrOf (offset : Nat) : Csr :=
  match offset with
  | 0x000 => .id
  | 0x004 => .ctrl
  | 0x008 => .status
  | 0x00C => .err
  | 0x010 => .inLen
  | 0x014 => .inFtype
  | 0x018 => .inBssidLo
  | 0x01C => .inBssidHi
  | 0x020 => .hdr0
  | 0x024 => .hdr1
  | 0x028 => .phyTxTime
  | 0x02C => .targetTxTime
  | 0x030 => .tlvCount
  | 0x034 => .entrySel
  | 0x038 => .entryInfo
  | 0x03C => .entryPoff
  | n => if 0x100 ≤ n ∧ n < 0x200 ∧ n % 4 = 0 then .field ((n - 0x100) / 4) else .reserved

/-! Reads -/

/-- A register whose value the host may not see while BUSY (R57): any value is returned then. That all 32 bits
are open, the reserved bits (log 5) and, against R36 and I7, the CODE of ERR and the KIND of ENTRY_INFO (log 20)
among them, is a DESIGN CHOICE, safe. -/
def State.resultRead (s : State) (v : Word) : Word :=
  if s.phase.busy then Config.freeRead s.reads else v

/-- The value of a register read (R31 to R57). -/
def State.readCsr (s : State) : Csr → Word
  | .id => idWord
  | .ctrl => s.ctrlWord
  | .status => s.statusWord
  | .err => s.resultRead s.errWord
  | .inLen => 0#16 ++ s.inLen
  | .inFtype => 0#24 ++ s.inFtype
  | .inBssidLo => s.inBssidLo
  | .inBssidHi => 0#16 ++ s.inBssidHi
  | .hdr0 => s.resultRead s.hdr0
  | .hdr1 => s.resultRead s.hdr1
  | .phyTxTime => s.resultRead s.phyTxTime
  | .targetTxTime => s.resultRead s.targetTxTime
  | .tlvCount => s.resultRead (0#16 ++ s.tlvCount)
  | .entrySel => 0#16 ++ s.entrySel
  | .entryInfo => s.resultRead (match s.selected? with | some e => e.infoWord | none => 0)
  | .entryPoff => s.resultRead (match s.selected? with | some e => 0#16 ++ e.poff | none => 0)
  | .field k => s.resultRead (match s.selected? with | some e => s.fieldOf e k | none => 0)
  | .reserved => 0

/-- IBUF byte at a window offset; 0 at or beyond MAX_FRAME_LEN (R86, R88). -/
def State.ibufWindow (s : State) (off : Nat) : Byte :=
  if off < s.params.maxFrameLen then s.ibufByte off else 0

/-- PBUF byte at a window offset, in byte lane `lane` of the transaction: 0 at or beyond MAX_FRAME_LEN
(R88; log 14), the payload copy in DONE below PWR, any value otherwise (R57, R168, I2, I4). That the value is
drawn anew on each read also for a byte never written since reset, which by R49 and I3 reads the same each time,
is a DESIGN CHOICE, safe: log 19. -/
def State.pbufWindow (s : State) (off lane : Nat) : Byte :=
  if off < s.params.maxFrameLen then
    if s.phase = .done ∧ off < s.pwr.toNat then s.pbufByte off
    else (Config.freeRead s.reads).extractLsb' (8 * lane) 8
  else 0

/-- The number of bytes a transaction moves. -/
def byteCount (width : Nat) : Nat := width / 8

/-- The data of a legal read (R85, R86, R168): the byte at the lowest address in bits [7:0]. -/
def State.readData (s : State) (width : Nat) (a : BusAddr) : Word :=
  match spaceOf a with
  | .csr => s.readCsr (csrOf (offsetOf a))
  | .ibuf => BitVec.ofNat 32 (le ((List.range (byteCount width)).map (fun k => s.ibufWindow (offsetOf a + k))))
  | .pbuf => BitVec.ofNat 32 (le ((List.range (byteCount width)).map (fun k => s.pbufWindow (offsetOf a + k) k)))
  | .reserved => 0

/-! Writes -/

/-- A CTRL write (R32, R162, R163): IE and PFE, then START when bit 0 is 1. -/
def State.writeCtrl (s : State) (d : Word) : State :=
  if d.getLsbD 0 then { s with ie := d.getLsbD 1, pfe := d.getLsbD 2 }.start
  else { s with ie := d.getLsbD 1, pfe := d.getLsbD 2 }

/-- A STATUS write (R33, R164): write one to clear IRQ_PEND and WDROP. -/
def State.writeStatus (s : State) (d : Word) : State :=
  { s with irqPend := s.irqPend && !d.getLsbD 2, wdrop := s.wdrop && !d.getLsbD 3 }

/-- A register write while not BUSY (R162 to R165): defined fields take the written bits; read-only and
reserved registers ignore the write. -/
def State.writeCsr (s : State) (d : Word) : Csr → State
  | .ctrl => s.writeCtrl d
  | .status => s.writeStatus d
  | .inLen => { s with inLen := d.extractLsb' 0 16 }
  | .inFtype => { s with inFtype := d.extractLsb' 0 8 }
  | .inBssidLo => { s with inBssidLo := d }
  | .inBssidHi => { s with inBssidHi := d.extractLsb' 0 16 }
  | .entrySel => { s with entrySel := d.extractLsb' 0 16 }
  | .id => s
  | .err => s
  | .hdr0 => s
  | .hdr1 => s
  | .phyTxTime => s
  | .targetTxTime => s
  | .tlvCount => s
  | .entryInfo => s
  | .entryPoff => s
  | .field _ => s
  | .reserved => s

/-- A legal write while not BUSY (R86, R88, R165). -/
def State.writeData (s : State) (width : Nat) (a : BusAddr) (d : Word) : State :=
  match spaceOf a with
  | .csr => s.writeCsr d (csrOf (offsetOf a))
  | .ibuf =>
    { s with ibuf := Memory.writeBytes s.params.maxFrameLen s.ibuf (offsetOf a) (bytesOf (byteCount width) d.toNat) }
  | .pbuf => s
  | .reserved => s

/-! Transactions -/

/-- Give the host a response (log 3). -/
def State.respond (s : State) (r : Response) : State := { s with responses := r :: s.responses }

/-- One host transaction (R87, R90, R91, R168, R348, R392): an illegal one gets BUS_ERR and changes
nothing; a read has no side effect on the block; a write while BUSY is dropped and sets WDROP. -/
def State.hostOp (s : State) : HostOp → State
  | .read width a =>
    if legalAccess width a then { s.respond (.data (s.readData width a)) with reads := s.reads + 1 }
    else s.respond .busErr
  | .write width a d =>
    if legalAccess width a then
      if s.phase.busy then { s with wdrop := true }.respond .ack
      else (s.writeData width a d).respond .ack
    else s.respond .busErr

end Sys2Proof.Machine
end

