-- ==== Sys2Proof/Machine/Classify.lean ====
section
/-! DEFINITION. The CLASSIFY phase, the document's FrameClassifier (`41_classify.md` R180 to R189).
Each check answers the error it raises, or none when it passes. -/

namespace Sys2Proof.Machine

/-- CheckLength (R181). -/
def checkLength (s : State) : Option ErrCode :=
  if s.params.maxFrameLen < s.inLen.toNat then some .outOfBounds else none

/-- CheckType (R182): "require `type == 0` (management) and `subtype == 0xD` (action)". -/
def checkType (s : State) : Option ErrCode :=
  if ftypeFields s.params.packedTypeLayout s.inFtype = (0, 0xD, true) then none
  else some .clsNotMgmtAction

/-- The fixed BSSID 00:25:00:FF:94:73 (R15, R183). -/
def awdlBssid : List Byte := [0x00, 0x25, 0x00, 0xFF, 0x94, 0x73]

/-- CheckBssid (R183): byte by byte, all 48 bits. -/
def checkBssid (s : State) : Option ErrCode :=
  if s.bssid = awdlBssid then none else some .clsBssidMismatch

/-- CheckCategory (R184). An empty payload is rejected with this code. -/
def checkCategory (s : State) : Option ErrCode :=
  if s.inLen.toNat < 1 then some .clsCategoryMismatch
  else
    match s.memRead 0 1 with
    | .error e => some e
    | .ok v => if v = 127 then none else some .clsCategoryMismatch

/-- The fixed vendor OUI 00:17:F2 (R15, R185). -/
def awdlOui : List Byte := [0x00, 0x17, 0xF2]

/-- CheckOui (R185). A payload of fewer than 4 bytes is rejected with this code. -/
def checkOui (s : State) : Option ErrCode :=
  if s.inLen.toNat < 4 then some .clsOuiMismatch
  else
    match s.memBytes 1 3 with
    | .error e => some e
    | .ok v => if v = awdlOui then none else some .clsOuiMismatch

/-- The first failing check, in the order of R180 and R187. -/
def classifyError (s : State) : Option ErrCode :=
  [checkLength, checkType, checkBssid, checkCategory, checkOui].findSome? (fun check => check s)

/-- ClassifyStep (R180, R186). -/
def classifyStep (s : State) : State :=
  match classifyError s with
  | some e => s.raise e 0
  | none => { s with phase := .header }

end Sys2Proof.Machine
end

