-- ==== Sys2Proof/Machine/ChannelSequence.lean ====
section
/-! DEFINITION. Channel Sequence, tag 18 (`47_channel_sequence.md` R325 to R331). -/

namespace Sys2Proof.Machine

/-- TAG_CHANNEL_SEQUENCE (tag 18, "channel sequence"), R325: CHANNEL_SEQ when LEN is at least 41, else TRUNCATED_PAYLOAD. -/
def execTagChannelSequence (len : Half) (value : List Byte) (s : State) : Host.Outcome State Fault Refusal :=
  tlvStep 0x12 len value (kindByLength s.params .channelSeq len) s

end Sys2Proof.Machine
end

