-- ==== Sys2Proof/Machine/Election.lean ====
section
/-! DEFINITION. Election Parameters v1 (tag 5) and v2 (tag 24) (`46_election.md` R305 to R319). -/

namespace Sys2Proof.Machine

/-- TAG_ELECTION_PARAMS (tag 5, "election parameters"), R305: ELECTION_V1 when LEN is at least 21, else TRUNCATED_PAYLOAD. -/
def execTagElectionParams (len : Half) (value : List Byte) (s : State) : Host.Outcome State Fault Refusal :=
  tlvStep 0x05 len value (kindByLength s.params .electionV1 len) s

/-- TAG_ELECTION_PARAMS_V2 (tag 24, "election parameters v2"), R315: ELECTION_V2 when LEN is at least 40, else TRUNCATED_PAYLOAD. -/
def execTagElectionParamsV2 (len : Half) (value : List Byte) (s : State) : Host.Outcome State Fault Refusal :=
  tlvStep 0x18 len value (kindByLength s.params .electionV2 len) s

end Sys2Proof.Machine
end

