-- ==== Sys2Proof/Machine/Registry.lean ====
section
/-! DEFINITION. The registry tags that have no decoder: 0 to 3, 6 to 17, 19 to 23 (`44_tag_dispatch.md`
R248 to R268). Each is accepted in SEG like every TLV and dispatched as UNRECOGNIZED with any length,
carrying the raw TLV. -/

namespace Sys2Proof.Machine

/-- TAG_SSTH_REQUEST (tag 0, "SSTH request"), R248: UNRECOGNIZED. -/
def execTagSsthRequest (len : Half) (value : List Byte) (s : State) : Host.Outcome State Fault Refusal :=
  tlvStep 0x00 len value .unrecognized s

/-- TAG_SERVICE_REQUEST (tag 1, "service request"), R249: UNRECOGNIZED. -/
def execTagServiceRequest (len : Half) (value : List Byte) (s : State) : Host.Outcome State Fault Refusal :=
  tlvStep 0x01 len value .unrecognized s

/-- TAG_SERVICE_RESPONSE (tag 2, "service response"), R250: UNRECOGNIZED. -/
def execTagServiceResponse (len : Half) (value : List Byte) (s : State) : Host.Outcome State Fault Refusal :=
  tlvStep 0x02 len value .unrecognized s

/-- TAG_UNKNOWN_3 (tag 3, "unknown"), R251: UNRECOGNIZED. -/
def execTagUnknown3 (len : Half) (value : List Byte) (s : State) : Host.Outcome State Fault Refusal :=
  tlvStep 0x03 len value .unrecognized s

/-- TAG_SERVICE_PARAMETERS (tag 6, "service parameters"), R252: UNRECOGNIZED. -/
def execTagServiceParameters (len : Half) (value : List Byte) (s : State) : Host.Outcome State Fault Refusal :=
  tlvStep 0x06 len value .unrecognized s

/-- TAG_EDR_CAPABILITIES (tag 7, "enhanced data-rate capabilities"), R253: UNRECOGNIZED. -/
def execTagEdrCapabilities (len : Half) (value : List Byte) (s : State) : Host.Outcome State Fault Refusal :=
  tlvStep 0x07 len value .unrecognized s

/-- TAG_EDR_OPERATION (tag 8, "enhanced data-rate operation"), R254: UNRECOGNIZED. -/
def execTagEdrOperation (len : Half) (value : List Byte) (s : State) : Host.Outcome State Fault Refusal :=
  tlvStep 0x08 len value .unrecognized s

/-- TAG_INFRA (tag 9, "infra"), R255: UNRECOGNIZED. -/
def execTagInfra (len : Half) (value : List Byte) (s : State) : Host.Outcome State Fault Refusal :=
  tlvStep 0x09 len value .unrecognized s

/-- TAG_INVITE (tag 10, "invite"), R256: UNRECOGNIZED. -/
def execTagInvite (len : Half) (value : List Byte) (s : State) : Host.Outcome State Fault Refusal :=
  tlvStep 0x0A len value .unrecognized s

/-- TAG_DEBUG_STRING (tag 11, "debug string"), R257: UNRECOGNIZED. -/
def execTagDebugString (len : Half) (value : List Byte) (s : State) : Host.Outcome State Fault Refusal :=
  tlvStep 0x0B len value .unrecognized s

/-- TAG_DATAPATH_STATE (tag 12, "data-path state"), R258: UNRECOGNIZED. -/
def execTagDatapathState (len : Half) (value : List Byte) (s : State) : Host.Outcome State Fault Refusal :=
  tlvStep 0x0C len value .unrecognized s

/-- TAG_ENCAPSULATED_IP (tag 13, "encapsulated IP"), R259: UNRECOGNIZED. -/
def execTagEncapsulatedIp (len : Half) (value : List Byte) (s : State) : Host.Outcome State Fault Refusal :=
  tlvStep 0x0D len value .unrecognized s

/-- TAG_DATAPATH_DEBUG_PACKET_LIVE (tag 14, "datapath debug (packet/live)"), R260: UNRECOGNIZED. -/
def execTagDatapathDebugPacketLive (len : Half) (value : List Byte) (s : State) : Host.Outcome State Fault Refusal :=
  tlvStep 0x0E len value .unrecognized s

/-- TAG_DATAPATH_DEBUG_AF_LIVE (tag 15, "datapath debug (AF/live)"), R261: UNRECOGNIZED. -/
def execTagDatapathDebugAfLive (len : Half) (value : List Byte) (s : State) : Host.Outcome State Fault Refusal :=
  tlvStep 0x0F len value .unrecognized s

/-- TAG_ARPA (tag 16, "ARPA"), R262: UNRECOGNIZED. -/
def execTagArpa (len : Half) (value : List Byte) (s : State) : Host.Outcome State Fault Refusal :=
  tlvStep 0x10 len value .unrecognized s

/-- TAG_IEEE80211_CONTAINER (tag 17, "IEEE 802.11 container"), R263: UNRECOGNIZED. -/
def execTagIeee80211Container (len : Half) (value : List Byte) (s : State) : Host.Outcome State Fault Refusal :=
  tlvStep 0x11 len value .unrecognized s

/-- TAG_UNKNOWN_19 (tag 19, "unknown"), R264: UNRECOGNIZED. -/
def execTagUnknown19 (len : Half) (value : List Byte) (s : State) : Host.Outcome State Fault Refusal :=
  tlvStep 0x13 len value .unrecognized s

/-- TAG_SYNC_TREE (tag 20, "synchronization tree"), R265: UNRECOGNIZED. -/
def execTagSyncTree (len : Half) (value : List Byte) (s : State) : Host.Outcome State Fault Refusal :=
  tlvStep 0x14 len value .unrecognized s

/-- TAG_VERSION (tag 21, "version"), R266: UNRECOGNIZED. -/
def execTagVersion (len : Half) (value : List Byte) (s : State) : Host.Outcome State Fault Refusal :=
  tlvStep 0x15 len value .unrecognized s

/-- TAG_BLOOM_FILTER (tag 22, "bloom filter"), R267: UNRECOGNIZED. -/
def execTagBloomFilter (len : Half) (value : List Byte) (s : State) : Host.Outcome State Fault Refusal :=
  tlvStep 0x16 len value .unrecognized s

/-- TAG_NAN_SYNC (tag 23, "NAN sync"), R268: UNRECOGNIZED. -/
def execTagNanSync (len : Half) (value : List Byte) (s : State) : Host.Outcome State Fault Refusal :=
  tlvStep 0x17 len value .unrecognized s

end Sys2Proof.Machine
end

