-- ==== Sys2Proof/Machine/SyncParams.lean ====
section
/-! DEFINITION. Synchronization Parameters, tag 4 (`45_sync_params.md` R290 to R298). -/

namespace Sys2Proof.Machine

/-- TAG_SYNC_PARAMS (tag 4, "synchronization parameters"), R290: SYNC when LEN is at least SYNC_SCALAR_LEN + 40, else TRUNCATED_PAYLOAD. -/
def execTagSyncParams (len : Half) (value : List Byte) (s : State) : Host.Outcome State Fault Refusal :=
  tlvStep 0x04 len value (kindByLength s.params .sync len) s

end Sys2Proof.Machine
end

