-- ==== Sys2Proof/Machine/Unassigned.lean ====
section
/-! DEFINITION. The tags outside the registry, 25 to 255 (`44_tag_dispatch.md` R269, `30_encoding.md`
R138): six masked rows, each dispatched as UNRECOGNIZED with any length. -/

namespace Sys2Proof.Machine

/-- TAG_UNASSIGNED_19 (tag 25, not in the registry), R269: UNRECOGNIZED. -/
def execTagUnassigned19 (len : Half) (value : List Byte) (s : State) : Host.Outcome State Fault Refusal :=
  tlvStep 0x19 len value .unrecognized s

/-- TAG_UNASSIGNED_1A (tags 0x1A to 0x1B, not in the registry), R269: UNRECOGNIZED. -/
def execTagUnassigned1A (low : BitVec 1) (len : Half) (value : List Byte) (s : State) : Host.Outcome State Fault Refusal :=
  tlvStep (13#7 ++ low) len value .unrecognized s

/-- TAG_UNASSIGNED_1C (tags 0x1C to 0x1F, not in the registry), R269: UNRECOGNIZED. -/
def execTagUnassigned1C (low : BitVec 2) (len : Half) (value : List Byte) (s : State) : Host.Outcome State Fault Refusal :=
  tlvStep (7#6 ++ low) len value .unrecognized s

/-- TAG_UNASSIGNED_20 (tags 0x20 to 0x3F, not in the registry), R269: UNRECOGNIZED. -/
def execTagUnassigned20 (low : BitVec 5) (len : Half) (value : List Byte) (s : State) : Host.Outcome State Fault Refusal :=
  tlvStep (1#3 ++ low) len value .unrecognized s

/-- TAG_UNASSIGNED_40 (tags 0x40 to 0x7F, not in the registry), R269: UNRECOGNIZED. -/
def execTagUnassigned40 (low : BitVec 6) (len : Half) (value : List Byte) (s : State) : Host.Outcome State Fault Refusal :=
  tlvStep (1#2 ++ low) len value .unrecognized s

/-- TAG_UNASSIGNED_80 (tags 0x80 to 0xFF, not in the registry), R269: UNRECOGNIZED. -/
def execTagUnassigned80 (low : BitVec 7) (len : Half) (value : List Byte) (s : State) : Host.Outcome State Fault Refusal :=
  tlvStep (1#1 ++ low) len value .unrecognized s

end Sys2Proof.Machine
end

