-- ==== Sys2Proof/Machine/Dispatch.lean ====
section
/-! DEFINITION. The meaning of every instruction: one arm per row of `spec/opcode_table.json`. -/

namespace Sys2Proof.Machine

def exec (i : Instr) (s : State) : Host.Outcome State Fault Refusal :=
  match i with
  | .tagSsthRequest len value => Sys2Proof.Machine.execTagSsthRequest len value s
  | .tagServiceRequest len value => Sys2Proof.Machine.execTagServiceRequest len value s
  | .tagServiceResponse len value => Sys2Proof.Machine.execTagServiceResponse len value s
  | .tagUnknown3 len value => Sys2Proof.Machine.execTagUnknown3 len value s
  | .tagSyncParams len value => Sys2Proof.Machine.execTagSyncParams len value s
  | .tagElectionParams len value => Sys2Proof.Machine.execTagElectionParams len value s
  | .tagServiceParameters len value => Sys2Proof.Machine.execTagServiceParameters len value s
  | .tagEdrCapabilities len value => Sys2Proof.Machine.execTagEdrCapabilities len value s
  | .tagEdrOperation len value => Sys2Proof.Machine.execTagEdrOperation len value s
  | .tagInfra len value => Sys2Proof.Machine.execTagInfra len value s
  | .tagInvite len value => Sys2Proof.Machine.execTagInvite len value s
  | .tagDebugString len value => Sys2Proof.Machine.execTagDebugString len value s
  | .tagDatapathState len value => Sys2Proof.Machine.execTagDatapathState len value s
  | .tagEncapsulatedIp len value => Sys2Proof.Machine.execTagEncapsulatedIp len value s
  | .tagDatapathDebugPacketLive len value => Sys2Proof.Machine.execTagDatapathDebugPacketLive len value s
  | .tagDatapathDebugAfLive len value => Sys2Proof.Machine.execTagDatapathDebugAfLive len value s
  | .tagArpa len value => Sys2Proof.Machine.execTagArpa len value s
  | .tagIeee80211Container len value => Sys2Proof.Machine.execTagIeee80211Container len value s
  | .tagChannelSequence len value => Sys2Proof.Machine.execTagChannelSequence len value s
  | .tagUnknown19 len value => Sys2Proof.Machine.execTagUnknown19 len value s
  | .tagSyncTree len value => Sys2Proof.Machine.execTagSyncTree len value s
  | .tagVersion len value => Sys2Proof.Machine.execTagVersion len value s
  | .tagBloomFilter len value => Sys2Proof.Machine.execTagBloomFilter len value s
  | .tagNanSync len value => Sys2Proof.Machine.execTagNanSync len value s
  | .tagElectionParamsV2 len value => Sys2Proof.Machine.execTagElectionParamsV2 len value s
  | .tagUnassigned19 len value => Sys2Proof.Machine.execTagUnassigned19 len value s
  | .tagUnassigned1A low len value => Sys2Proof.Machine.execTagUnassigned1A low len value s
  | .tagUnassigned1C low len value => Sys2Proof.Machine.execTagUnassigned1C low len value s
  | .tagUnassigned20 low len value => Sys2Proof.Machine.execTagUnassigned20 low len value s
  | .tagUnassigned40 low len value => Sys2Proof.Machine.execTagUnassigned40 low len value s
  | .tagUnassigned80 low len value => Sys2Proof.Machine.execTagUnassigned80 low len value s

end Sys2Proof.Machine
end

