-- ==== Sys2Proof/Machine/Fetch.lean ====
section
/-! DEFINITION. Where the TLV of a step comes from: in SEG the bytes of the payload at the cursor
(`43_tlv_stream.md` R215 to R218), in DISPATCH the table entry DIDX (`44_tag_dispatch.md` R240). And the
placing of an instruction where the next step fetches it. -/

namespace Sys2Proof.Machine

/-- The TLV at the cursor (R215): at least 3 bytes must remain (R217) and the tag length must fit the
bytes that remain (R218); either failure is TRUNCATED_TLV. The bytes decoded are `IBUF[pc .. IN_LEN)`
(log 10). -/
def fetchTlv (s : State) : Except ErrCode Instr :=
  if s.inLen.toNat < s.cursor.toNat + 3 then .error .truncatedTlv
  else
    match s.memBytes s.cursor.toNat (s.inLen.toNat - s.cursor.toNat) with
    | .error e => .error e
    | .ok bytes =>
      match decode bytes with
      | .error _ => .error .truncatedTlv
      | .ok (i, _) => .ok i

/-- The TLV of table entry DIDX (R240): its tag and length with the payload copy in PBUF (log 9). -/
def fetchEntry (s : State) : Instr :=
  instrOf (s.entry s.didx.toNat).tag (s.entry s.didx.toNat).len (s.payloadOf (s.entry s.didx.toNat))

/-- The bytes of a whole TLV from a table word: 3 header bytes and as many value bytes as the length
field says, all bits at or above `nbits` zero. -/
def fetchBytes (nbits w : Nat) : List Byte :=
  tableBytes nbits w (3 + le ((tableBytes nbits w 3).drop 1))

/-- The cursor at which `placeTlv` puts a TLV: where SEG would fetch it, or the stream start. -/
def State.fetchCursor (s : State) : Half := if s.phase = .seg then s.cursor else 16

/-- Put the bytes of one TLV at the cursor as the last of the payload, in SEG, and let the parser move
next. It stands for the host's load and the CLASSIFY and HEADER steps (log 11). -/
def State.placeTlv (s : State) (bytes : List Byte) : State :=
  { s with
    ibuf := Memory.writeBytes s.params.maxFrameLen s.ibuf s.fetchCursor.toNat bytes
    inLen := BitVec.ofNat 16 (s.fetchCursor.toNat + bytes.length)
    cursor := s.fetchCursor
    phase := .seg
    schedule := match s.schedule with
      | [] => []
      | rest => .parser :: rest }

end Sys2Proof.Machine
end

