-- ==== Sys2Proof/Machine/Header.lean ====
section
/-! DEFINITION. The HEADER phase, the document's FixedHeaderDecoder (`42_header.md` R200 to R206). -/

namespace Sys2Proof.Machine

/-- The four header registers HDR0, HDR1, PHY_TX_TIME and TARGET_TX_TIME, read in byte lanes from
payload bytes 0 to 15 (R42 to R45, R200, R202). -/
def headerWords (s : State) : Except ErrCode (Word × Word × Word × Word) := do
  let w0 ← s.memRead 0 4
  let w1 ← s.memRead 4 4
  let w2 ← s.memRead 8 4
  let w3 ← s.memRead 12 4
  pure (BitVec.ofNat 32 w0, BitVec.ofNat 32 w1, BitVec.ofNat 32 w2, BitVec.ofNat 32 w3)

/-- HeaderStep (R200): the truncation check `IN_LEN - 4 >= 12` (R201), the header registers, and the
cursor at the stream start, 16 (R206). -/
def headerStep (s : State) : State :=
  if s.inLen.toNat < 16 then s.raise .truncatedHeader 0
  else
    match headerWords s with
    | .error e => s.raise e 0
    | .ok (w0, w1, w2, w3) =>
      { s with hdr0 := w0, hdr1 := w1, phyTxTime := w2, targetTxTime := w3, cursor := 16, phase := .seg }

end Sys2Proof.Machine
end

