-- ==== Sys2Proof/Machine/Parser.lean ====
section
/-! DEFINITION. The parser's step in each phase (`40_fsm_control.md` R160, R161). -/

namespace Sys2Proof.Machine

/-- A SEG step (R215, R216): the end of the stream, a truncated TLV, or the TLV at the cursor. -/
def segStep (s : State) : Host.Outcome State Fault Refusal :=
  if s.cursor = s.inLen then .next { s with phase := .dispatch }
  else
    match fetchTlv s with
    | .error e => .next (s.raise e 0)
    | .ok i => exec i s

/-- A DISPATCH step (R240): the finish, or the entry DIDX. -/
def dispatchStep (s : State) : Host.Outcome State Fault Refusal :=
  if s.didx = s.tidx then .next s.finish else exec (fetchEntry s) s

/-- The parser's turn (R161): in IDLE, DONE and ERROR it has no step and nothing changes (log 15). -/
def parserStep (s : State) : Host.Outcome State Fault Refusal :=
  match s.phase with
  | .idle => .next s
  | .classify => .next (classifyStep s)
  | .header => .next (headerStep s)
  | .seg => segStep s
  | .dispatch => dispatchStep s
  | .done => .next s
  | .error => .next s

/-- The state with the input that comes next taken off the schedule. -/
def State.popped (s : State) : State := { s with schedule := s.schedule.tail }

end Sys2Proof.Machine
end

