-- ==== Sys2Proof/Machine/Step.lean ====
section
/-! DEFINITION. One step of the machine: the parser's step (`40_fsm_control.md` R161), a host transaction
or `rst`, whichever the schedule says comes next (R92, R380; log 2). -/

namespace Sys2Proof.Machine

/-- One step of the machine. With nothing scheduled it is the parser's turn. -/
def step (s : State) : Host.Outcome State Fault Refusal :=
  match s.schedule with
  | [] => parserStep s.popped
  | .parser :: _ => parserStep s.popped
  | .host op :: _ => .next (s.popped.hostOp op)
  | .rst :: _ => .next s.popped.rst

/-- The state in which the next step fetches and runs the TLV whose first `nbits` bits are `w`. -/
def State.withFetchWord (s : State) (nbits w : Nat) : State := s.placeTlv (fetchBytes nbits w)

end Sys2Proof.Machine
end

