-- ==== Sys2Proof/Machine/Reference.lean ====
section
/-! DEFINITION. The reference function `Decode` of `40_fsm_control.md` R169: the result of a whole decode as
a pure function of the inputs, without phases, cursor, counters, table or PBUF. -/

namespace Sys2Proof.Machine

/-- `Segment` (R169, R216 to R223): the records of a byte stream with their payloads, in wire order.
`idx` and `off` are the index and the PBUF offset of the next record; `fuel` bounds the recursion (every
record takes 3 bytes or more, so the number of bytes is enough). -/
def segmentTlvs (maxTlvs : Nat) : Nat → Nat → Nat → List Byte → Except ErrCode (List (TlvEntry × List Byte))
  | _, _, _, [] => .ok []
  | 0, _, _, _ :: _ => .error .truncatedTlv
  | fuel + 1, idx, off, b :: bs =>
    match decode (b :: bs) with
    | .error _ => .error .truncatedTlv
    | .ok (i, rest) =>
      if idx = maxTlvs then .error .tlvTableOverflow
      else
        match segmentTlvs maxTlvs fuel (idx + 1) (off + i.len.toNat) rest with
        | .error e => .error e
        | .ok es =>
          .ok (({ tag := i.tag, len := i.len, poff := BitVec.ofNat 16 off, kind := .none }, i.value) :: es)

/-- The Frame record of a decode that ends in DONE (R169, R22). -/
structure FrameRecord where
  hdr0 : Word
  hdr1 : Word
  phyTxTime : Word
  targetTxTime : Word
  /-- table entries with their payload copies -/
  entries : List (TlvEntry × List Byte)
  perr : Bool
  deriving DecidableEq, Repr

/-- An entry with the KIND that dispatch gives it (R241). -/
def dispatched (p : Params) (x : TlvEntry × List Byte) : TlvEntry × List Byte :=
  ({ x.1 with kind := payloadKind p x.1.tag x.1.len }, x.2)

/-- An entry whose payload is shorter than its tag's minimum (R242). -/
def isShort (x : TlvEntry × List Byte) : Bool := x.1.kind == .truncatedPayload

/-- `IBUF[16 .. n)`, the TLV stream (R122). -/
def State.stream (s : State) : List Byte :=
  (List.range (s.inLen.toNat - 16)).map (fun k => s.ibufByte (16 + k))

/-- The dispatch part of `Decode` (R169, R242, R244): with PFE = 1 the first short entry ends the decode. -/
def dispatchAll (pfe : Bool) (es : List (TlvEntry × List Byte)) :
    Except (ErrCode × Byte) (List (TlvEntry × List Byte) × Bool) :=
  match es.find? isShort with
  | none => .ok (es, false)
  | some x => if pfe then .error (.truncatedTlvPayload, x.1.tag) else .ok (es, true)

/-- `Decode` (R169) of the inputs a state holds: IBUF, IN_LEN, IN_FTYPE, IN_BSSID, CTRL.PFE and the
parameters. Answers the Frame record, or the error with its tag. -/
def referenceDecode (s : State) : Except (ErrCode × Byte) FrameRecord :=
  match classifyError s with
  | some e => .error (e, 0)
  | none =>
    if s.inLen.toNat < 16 then .error (.truncatedHeader, 0)
    else
      match headerWords s with
      | .error e => .error (e, 0)
      | .ok (w0, w1, w2, w3) =>
        match segmentTlvs s.params.maxTlvs s.stream.length 0 0 s.stream with
        | .error e => .error (e, 0)
        | .ok es =>
          match dispatchAll s.pfe (es.map (dispatched s.params)) with
          | .error e => .error e
          | .ok (es', perr) =>
            .ok { hdr0 := w0, hdr1 := w1, phyTxTime := w2, targetTxTime := w3, entries := es', perr := perr }

end Sys2Proof.Machine
end

