-- ==== Sys2Proof/Safety.lean ====
section
/-! DEFINITION. The terms the claims use: whose turn it is, what a step leaves unchanged, what a started
decode is, and the invariant of the block. -/

namespace Sys2Proof.Machine

/-! Turns -/

/-- The next step is the parser's (R161): nothing is scheduled, or a parser turn is. -/
def State.parserTurn (s : State) : Prop := s.schedule = [] ∨ s.schedule.head? = some .parser

/-! Frames -/

/-- The parameters and the input registers, CTRL included, are unchanged. -/
def sameInputs (s t : State) : Prop :=
  t.params = s.params ∧ t.ie = s.ie ∧ t.pfe = s.pfe ∧ t.inLen = s.inLen ∧ t.inFtype = s.inFtype ∧
    t.inBssidLo = s.inBssidLo ∧ t.inBssidHi = s.inBssidHi ∧ t.entrySel = s.entrySel

/-- The result registers are unchanged. -/
def sameResults (s t : State) : Prop :=
  t.hdr0 = s.hdr0 ∧ t.hdr1 = s.hdr1 ∧ t.phyTxTime = s.phyTxTime ∧ t.targetTxTime = s.targetTxTime ∧
    t.tlvCount = s.tlvCount

/-- The result registers are 0. -/
def clearedResults (t : State) : Prop :=
  t.hdr0 = 0 ∧ t.hdr1 = 0 ∧ t.phyTxTime = 0 ∧ t.targetTxTime = 0 ∧ t.tlvCount = 0

/-- The status flags are unchanged. -/
def sameFlags (s t : State) : Prop := t.irqPend = s.irqPend ∧ t.wdrop = s.wdrop ∧ t.perr = s.perr

/-- ERR is unchanged. -/
def sameErr (s t : State) : Prop := t.errCode = s.errCode ∧ t.errTag = s.errTag

/-- Every byte of IBUF reads as before. -/
def sameIbuf (s t : State) : Prop := ∀ a, t.ibufByte a = s.ibufByte a

/-- Every byte of PBUF reads as before. -/
def samePbuf (s t : State) : Prop := ∀ a, t.pbufByte a = s.pbufByte a

/-- Every table entry reads as before. -/
def sameTable (s t : State) : Prop := ∀ i, t.entry i = s.entry i

/-- The counters TIDX, DIDX and PWR and the cursor are unchanged. -/
def sameCounters (s t : State) : Prop :=
  t.cursor = s.cursor ∧ t.tidx = s.tidx ∧ t.didx = s.didx ∧ t.pwr = s.pwr

/-- The model's own counters, and the responses given, are unchanged. -/
def sameEnvironment (s t : State) : Prop :=
  t.epoch = s.epoch ∧ t.reads = s.reads ∧ t.responses = s.responses

/-- What the decode's error entry leaves (R166): the state after `raise E(tag)`, field by field. -/
def raised (e : ErrCode) (tag : Byte) (s t : State) : Prop :=
  t.phase = .error ∧ t.errCode = e ∧ t.errTag = tag ∧ clearedResults t ∧ t.perr = false ∧
    t.irqPend = true ∧ t.wdrop = s.wdrop ∧ sameInputs s t ∧ sameIbuf s t ∧ samePbuf s t ∧
    sameCounters s t ∧ sameEnvironment s t

/-- What a DISPATCH step that goes on leaves (R240): the entry DIDX has the KIND, PERR is as said, DIDX
moves on, and nothing else changes. -/
def dispatchedTo (k : Kind) (perr : Bool) (s t : State) : Prop :=
  t.phase = .dispatch ∧ t.didx = s.didx + 1 ∧
    t.entry s.didx.toNat = { s.entry s.didx.toNat with kind := k } ∧
    (∀ j, j ≠ s.didx.toNat → t.entry j = s.entry j) ∧
    t.perr = perr ∧ t.irqPend = s.irqPend ∧ t.wdrop = s.wdrop ∧
    t.cursor = s.cursor ∧ t.tidx = s.tidx ∧ t.pwr = s.pwr ∧
    sameInputs s t ∧ sameResults s t ∧ sameErr s t ∧ sameIbuf s t ∧ samePbuf s t ∧
    sameEnvironment s t ∧ t.schedule = s.schedule

/-- What a DISPATCH step that ends the decode leaves (R240, R242): the raise of TRUNCATED_TLV_PAYLOAD
naming the tag, after KIND was written. -/
def dispatchFailed (tag : Byte) (s t : State) : Prop :=
  raised .truncatedTlvPayload tag s t ∧
    t.entry s.didx.toNat = { s.entry s.didx.toNat with kind := .truncatedPayload } ∧
    (∀ j, j ≠ s.didx.toNat → t.entry j = s.entry j) ∧ t.schedule = s.schedule

/-- The three outcomes of dispatching a recognized tag (R240 to R243): KIND when the length reaches the
minimum, TRUNCATED_PAYLOAD and PERR when it does not and PFE = 0, the raise when PFE = 1. -/
def dispatchOutcome (tag : Byte) (k : Kind) (min len : Nat) (s t : State) : Prop :=
  (min ≤ len → dispatchedTo k s.perr s t) ∧
    (len < min → s.pfe = false → dispatchedTo .truncatedPayload true s t) ∧
    (len < min → s.pfe = true → dispatchFailed tag s t)

/-! Formats -/

/-- The fields of a layout lie back to back from offset `start` to offset `stop`: no gap, no overlap. -/
def tilesFrom : Nat → List FieldSpec → Nat → Prop
  | start, [], stop => start = stop
  | start, f :: fs, stop => f.offset = start ∧ tilesFrom (start + f.width) fs stop

/-! Decodes -/

/-- The state right after an accepted START (R162): results, flags, ERR, cursor and counters cleared,
phase CLASSIFY. -/
def State.started (s : State) : Prop :=
  s.phase = .classify ∧ s.errCode = .none ∧ s.errTag = 0 ∧ s.irqPend = false ∧ s.wdrop = false ∧
    s.perr = false ∧ clearedResults s ∧ s.cursor = 0 ∧ s.tidx = 0 ∧ s.didx = 0 ∧ s.pwr = 0

/-- The state shows a Frame record (R169, R167): header registers, TLV_COUNT, the entries with their
payload copies in PBUF, and PERR, in DONE with IRQ_PEND set and no error. -/
def State.shows (t : State) (f : FrameRecord) : Prop :=
  t.phase = .done ∧ t.errCode = .none ∧ t.errTag = 0 ∧ t.irqPend = true ∧ t.perr = f.perr ∧
    t.hdr0 = f.hdr0 ∧ t.hdr1 = f.hdr1 ∧ t.phyTxTime = f.phyTxTime ∧ t.targetTxTime = f.targetTxTime ∧
    t.tlvCount.toNat = f.entries.length ∧
    ∀ i e v, f.entries[i]? = some (e, v) → t.entry i = e ∧ t.payloadOf e = v

/-- Everything the parser's steps depend on and write: the state without WDROP, the schedule, the
responses and the read counter. -/
def State.parserView (s : State) : State :=
  { s with wdrop := false, reads := 0, schedule := [], responses := [] }

/-! The invariant -/

/-- The sum of LEN over the first `n` table entries (R222, R224). -/
def State.lenSum (s : State) (n : Nat) : Nat := ((List.range n).map (fun j => (s.entry j).len.toNat)).sum

/-- Buffers and table are in canonical form, inside their sizes (R49, R53). -/
def InvStores (s : State) : Prop :=
  Memory.wf s.params.maxFrameLen s.ibuf ∧ Memory.wf s.params.maxFrameLen s.pbuf ∧
    Store.wf s.params.maxTlvs s.tlvt

/-- The result registers read 0 where no Frame record is shown (R42 to R46, R166). -/
def InvResults (s : State) : Prop :=
  match s.phase with
  | .idle | .classify | .header | .error => clearedResults s
  | .seg | .dispatch => s.tlvCount = 0
  | .done => s.tlvCount = s.tidx

/-- ERR is nonzero in ERROR only; ERR.TAG is a recognized tag for TRUNCATED_TLV_PAYLOAD and 0 otherwise
(R34, R341). -/
def InvErr (s : State) : Prop :=
  (s.errCode ≠ .none ↔ s.phase = .error) ∧
    (if s.errCode = .truncatedTlvPayload then s.errTag = 4 ∨ s.errTag = 5 ∨ s.errTag = 18 ∨ s.errTag = 24
     else s.errTag = 0)

/-- Cursor and counters in each phase (R50, R52, R216, R228). -/
def InvCursor (s : State) : Prop :=
  match s.phase with
  | .idle => True
  | .classify | .header => s.cursor = 0 ∧ s.tidx = 0 ∧ s.didx = 0 ∧ s.pwr = 0
  | .seg => 16 ≤ s.cursor.toNat ∧ s.cursor.toNat ≤ s.inLen.toNat ∧ s.inLen.toNat ≤ s.params.maxFrameLen ∧
      s.tidx.toNat ≤ s.params.maxTlvs ∧ s.didx = 0
  | .dispatch => 16 ≤ s.cursor.toNat ∧ s.cursor = s.inLen ∧ s.inLen.toNat ≤ s.params.maxFrameLen ∧
      s.tidx.toNat ≤ s.params.maxTlvs ∧ s.didx.toNat ≤ s.tidx.toNat
  | .done => 16 ≤ s.cursor.toNat ∧ s.cursor.toNat ≤ s.params.maxFrameLen ∧
      s.tidx.toNat ≤ s.params.maxTlvs ∧ s.didx = s.tidx
  | .error => True

/-- The phases in which the table holds the TLVs of the decode. -/
def Phase.tabled : Phase → Bool
  | .idle => false
  | .classify => false
  | .header => false
  | .seg => true
  | .dispatch => true
  | .done => true
  | .error => false

/-- The table is an exact segmentation of the bytes consumed, payload copies packed in wire order (R100,
R222, R224). -/
def InvTable (s : State) : Prop :=
  s.phase.tabled = true →
    s.cursor.toNat = 16 + 3 * s.tidx.toNat + s.pwr.toNat ∧ s.pwr.toNat = s.lenSum s.tidx.toNat ∧
      ∀ i < s.tidx.toNat, (s.entry i).poff.toNat = s.lenSum i

/-- KIND of every entry, and PERR (R219, R240, R241, R243). -/
def InvKinds (s : State) : Prop :=
  (s.phase.tabled = true →
    (∀ i < s.didx.toNat, (s.entry i).kind = payloadKind s.params (s.entry i).tag (s.entry i).len) ∧
    (∀ i, s.didx.toNat ≤ i → i < s.tidx.toNat → (s.entry i).kind = .none) ∧
    (s.perr = true ↔ ∃ i < s.didx.toNat, (s.entry i).kind = .truncatedPayload)) ∧
  (s.phase.tabled = false → s.perr = false) ∧
  (s.phase = .dispatch → s.pfe = true → s.perr = false)

/-- No completion is pending while a decode runs or before the first one (R33, R350). -/
def InvFlags (s : State) : Prop :=
  (s.phase.busy = true → s.irqPend = false) ∧ (s.phase = .idle → s.irqPend = false ∧ s.wdrop = false)

/-- The invariant of the block: it holds at reset and every step keeps it. -/
def Inv (s : State) : Prop :=
  s.params.valid ∧ InvStores s ∧ InvResults s ∧ InvErr s ∧ InvCursor s ∧ InvTable s ∧ InvKinds s ∧ InvFlags s

/-- The header registers of a Frame record come from an accepted payload (R204): the HEADER phase is entered
with a good prefix in IBUF, and from then on HDR0 is 0xF217007F (R42). -/
def HeaderInv (s : State) : Prop :=
  (s.phase = .header →
    s.ibufByte 0 = 127 ∧ s.ibufByte 1 = 0x00 ∧ s.ibufByte 2 = 0x17 ∧ s.ibufByte 3 = 0xF2) ∧
  (s.phase.tabled = true → s.hdr0 = 0xF217007F)

/-- The cursor at which entry `i` was read (R220): `16 + sum over j < i of (3 + LEN_j)`. -/
def State.entryCursor (s : State) (i : Nat) : Nat := 16 + 3 * i + s.lenSum i

/-- While a decode runs, every entry and its payload copy are the bytes of the payload at the cursor it
was read from (R219, R222; `95_test_vectors.md` X4: re-encoding the record gives the payload back). -/
def CopyInv (s : State) : Prop :=
  s.phase = .seg ∨ s.phase = .dispatch →
    ∀ i < s.tidx.toNat,
      (s.entry i).tag = s.ibufByte (s.entryCursor i) ∧
      (s.entry i).len = le16 (s.ibufByte (s.entryCursor i + 1)) (s.ibufByte (s.entryCursor i + 2)) ∧
      ∀ k < (s.entry i).len.toNat,
        s.pbufByte ((s.entry i).poff.toNat + k) = s.ibufByte (s.entryCursor i + 3 + k)

end Sys2Proof.Machine
end

