-- ==== Sys2Proof/Certificates/Slice0/Obligations.lean ====
section
/-! DEFINITION. The statements for the provers. Each says what the block does by a rule of `spec/`, in
terms of reads of its state. -/

open Sys2Proof Sys2Proof.Machine

/-! Encoding -/

/-- R125 to R127: decoding the bytes of a well-formed TLV gives it back, whatever follows. -/
def Obligations.DecodeOfEncode : Prop :=
  ∀ (i : Instr) (rest : List Byte), i.wf = true → decode (encode i ++ rest) = .ok (i, rest)

/-- R125 to R127: whatever decodes is the encoding of a well-formed TLV followed by the rest. -/
def Obligations.EncodeOfDecode : Prop :=
  ∀ (bytes : List Byte) (i : Instr) (rest : List Byte),
    decode bytes = .ok (i, rest) → i.wf = true ∧ encode i ++ rest = bytes

/-- R217, R218: the decoder refuses a byte list exactly when it is shorter than a tag header, or than
the tag header and the tag length it gives. -/
def Obligations.DecodeRefusesExactlyShortBytes : Prop :=
  ∀ bytes : List Byte,
    (decode bytes = .error .truncatedHeader ↔ bytes.length < 3) ∧
    (decode bytes = .error .truncatedValue ↔
      3 ≤ bytes.length ∧ bytes.length < 3 + le ((bytes.drop 1).take 2))

/-- R137: every tag byte matches exactly one row of the opcode table, and it is the row the decoder takes. -/
def Obligations.OpcodeRowsDoNotOverlap : Prop :=
  ∀ tag : Byte, (opcodeTable.filter (rowMatches tag)).map (·.op) = [opcodeOf tag]

/-- Words written out from R125 and R136 (`95_test_vectors.md` P2, U1, S6, U2) decode to their TLVs. -/
def Obligations.SpecWordsDecode : Prop :=
  decode [0x07, 0x00, 0x00] = .ok (.tagEdrCapabilities 0 [], []) ∧
  decode [0x17, 0x02, 0x00, 0xaa, 0xbb] = .ok (.tagNanSync 2 [0xaa, 0xbb], []) ∧
  decode [0xc8, 0x02, 0x00, 0x09, 0x09] = .ok (.tagUnassigned80 0x48 2 [0x09, 0x09], []) ∧
  decode [0x1a, 0x00, 0x00] = .ok (.tagUnassigned1A 0 0 [], []) ∧
  decode [0x12, 0x01, 0x00, 0x03, 0x18] = .ok (.tagChannelSequence 1 [0x03], [0x18]) ∧
  decode [0x07, 0xff, 0xff] = .error .truncatedValue

/-- R129 to R132: the fields of each payload format lie back to back from offset 0 to the minimum length. -/
def Obligations.LayoutsTileTheMinimum : Prop :=
  ∀ (p : Params) (f : Format), tilesFrom 0 (layout p f) (minLen p f)

/-! The step -/

/-- R161, R215: in SEG, when the bytes from the cursor to the end of the payload decode to a TLV, the
parser's step is `exec` of that TLV with the parser's turn taken off the schedule. -/
def Obligations.StepRunsTlvAtCursor : Prop :=
  ∀ (s : State) (i : Instr) (rest : List Byte),
    s.parserTurn → s.phase = .seg → s.inLen.toNat ≤ s.params.maxFrameLen →
    decode ((List.range (s.inLen.toNat - s.cursor.toNat)).map (fun k => s.ibufByte (s.cursor.toNat + k)))
      = .ok (i, rest) →
    step s = exec i { s with schedule := s.schedule.tail }

/-- R161, R240: in DISPATCH, the parser's step at entry DIDX is `exec` of the TLV that the entry's tag,
length and payload copy spell, with the parser's turn taken off the schedule. -/
def Obligations.StepRunsEntryAtDispatch : Prop :=
  ∀ (s : State) (e : TlvEntry) (i : Instr),
    s.parserTurn → s.phase = .dispatch → s.didx ≠ s.tidx → s.entry s.didx.toNat = e →
    decode (e.tag :: e.len.extractLsb' 0 8 :: e.len.extractLsb' 8 8 ::
      (List.range e.len.toNat).map (fun k => s.pbufByte (e.poff.toNat + k))) = .ok (i, []) →
    step s = exec i { s with schedule := s.schedule.tail }

/-- R142, R161, R380: whatever the state and whoever moves, a step answers a next state, never a fault or a
refusal. (That a parser turn answers in IDLE, DONE and ERROR, where R161 gives the parser no step, is the model's
choice, log 15. That every decode ends is `DecodeRefinesReference`.) -/
def Obligations.StepAlwaysAnswersNext : Prop :=
  ∀ s : State, ∃ t, step s = .next t

/-- R161, R364: in IDLE, DONE and ERROR the parser has no step: its turn changes nothing but the schedule
(that a turn then passes is the model's choice, log 15). -/
def Obligations.QuiescentParserTurn : Prop :=
  ∀ s : State, s.parserTurn → (s.phase = .idle ∨ s.phase = .done ∨ s.phase = .error) →
    step s = .next { s with schedule := s.schedule.tail }

/-- R161: `exec` asked to run a TLV in a phase that has no TLV step stops by name (the model's choice, log 8). -/
def Obligations.NoTlvStepOutsideSegAndDispatch : Prop :=
  ∀ (i : Instr) (s : State), s.phase ≠ .seg → s.phase ≠ .dispatch → exec i s = .fault .noTlvStep

/-! SEG -/

/-- R215, R219, R220, R222, R225: the SEG step of every TLV, when the table is not full, records it. The
entry TIDX is the TLV with KIND NONE and POFF = PWR; its value bytes stand in PBUF from PWR; TIDX, PWR and
the cursor advance by 1, L and 3 + L; nothing else changes. -/
def Obligations.SegRecordsTlv : Prop :=
  ∀ (i : Instr) (s : State),
    i.wf = true → s.phase = .seg → s.tidx.toNat ≠ s.params.maxTlvs →
    ∃ t, exec i s = .next t ∧ t.phase = .seg ∧
      t.entry s.tidx.toNat = { tag := i.tag, len := i.len, poff := s.pwr, kind := .none } ∧
      (∀ j, j ≠ s.tidx.toNat → t.entry j = s.entry j) ∧
      (∀ k, k < i.len.toNat → s.pwr.toNat + k < s.params.maxFrameLen →
        some (t.pbufByte (s.pwr.toNat + k)) = i.value[k]?) ∧
      (∀ a, ¬ (s.pwr.toNat ≤ a ∧ a < s.pwr.toNat + i.len.toNat) → t.pbufByte a = s.pbufByte a) ∧
      t.tidx = s.tidx + 1 ∧ t.pwr = s.pwr + i.len ∧ t.cursor = s.cursor + 3 + i.len ∧ t.didx = s.didx ∧
      sameInputs s t ∧ sameResults s t ∧ sameFlags s t ∧ sameErr s t ∧ sameIbuf s t ∧
      sameEnvironment s t ∧ t.schedule = s.schedule

/-- R221: when the table is full, the SEG step of every TLV raises TLV_TABLE_OVERFLOW and records nothing. -/
def Obligations.SegTableFullRaises : Prop :=
  ∀ (i : Instr) (s : State), s.phase = .seg → s.tidx.toNat = s.params.maxTlvs →
    ∃ t, exec i s = .next t ∧ raised .tlvTableOverflow 0 s t ∧ sameTable s t ∧ t.schedule = s.schedule

/-- R216: at the end of the stream the SEG step moves to DISPATCH and changes nothing else; this is the
only way SEG ends without an error, and the cursor never passes the end. -/
def Obligations.SegEndsOnlyAtEndOfStream : Prop :=
  ∀ s : State, s.parserTurn → s.phase = .seg →
    (s.cursor = s.inLen → step s = .next { s with schedule := s.schedule.tail, phase := .dispatch }) ∧
    (∀ t, step s = .next t →
      t.phase = .seg ∨ t.phase = .error ∨ (t.phase = .dispatch ∧ s.cursor = s.inLen)) ∧
    (∀ t, step s = .next t → s.cursor.toNat ≤ s.inLen.toNat → t.cursor.toNat ≤ t.inLen.toNat)

/-- R217, R223: with 1 or 2 bytes left the SEG step raises TRUNCATED_TLV; no TLV of the decode stays
visible. -/
def Obligations.SegTruncatedTagHeader : Prop :=
  ∀ s : State, s.parserTurn → s.phase = .seg →
    (s.inLen.toNat = s.cursor.toNat + 1 ∨ s.inLen.toNat = s.cursor.toNat + 2) →
    ∃ t, step s = .next t ∧ raised .truncatedTlv 0 s t ∧ sameTable s t ∧ t.schedule = s.schedule.tail

/-- R218: with a whole tag header at the cursor, a tag length larger than the bytes left raises
TRUNCATED_TLV, and one that fits runs the TLV with that tag, length and value. -/
def Obligations.SegTagLengthCheck : Prop :=
  ∀ s : State, s.parserTurn → s.phase = .seg →
    s.cursor.toNat + 3 ≤ s.inLen.toNat → s.inLen.toNat ≤ s.params.maxFrameLen →
    ∀ L : Half, L = le16 (s.ibufByte (s.cursor.toNat + 1)) (s.ibufByte (s.cursor.toNat + 2)) →
    (s.inLen.toNat < s.cursor.toNat + 3 + L.toNat →
      ∃ t, step s = .next t ∧ raised .truncatedTlv 0 s t ∧ sameTable s t ∧ t.schedule = s.schedule.tail) ∧
    (s.cursor.toNat + 3 + L.toNat ≤ s.inLen.toNat →
      step s = exec (instrOf (s.ibufByte s.cursor.toNat) L
          ((List.range L.toNat).map (fun k => s.ibufByte (s.cursor.toNat + 3 + k))))
        { s with schedule := s.schedule.tail })

/-! DISPATCH -/

/-- R248 to R268: the 21 registry tags without a decoder are dispatched as UNRECOGNIZED with any length;
no flag, no error, no byte of IBUF or PBUF and no other entry changes. -/
def Obligations.RegistryTagsAreUnrecognized : Prop :=
  ∀ (len : Half) (value : List Byte) (s : State), s.phase = .dispatch →
    ∀ i ∈ [Instr.tagSsthRequest len value, .tagServiceRequest len value, .tagServiceResponse len value,
        .tagUnknown3 len value, .tagServiceParameters len value, .tagEdrCapabilities len value,
        .tagEdrOperation len value, .tagInfra len value, .tagInvite len value, .tagDebugString len value,
        .tagDatapathState len value, .tagEncapsulatedIp len value, .tagDatapathDebugPacketLive len value,
        .tagDatapathDebugAfLive len value, .tagArpa len value, .tagIeee80211Container len value,
        .tagUnknown19 len value, .tagSyncTree len value, .tagVersion len value, .tagBloomFilter len value,
        .tagNanSync len value],
      ∃ t, exec i s = .next t ∧ dispatchedTo .unrecognized s.perr s t

/-- R269: tags 25 to 255 are dispatched as UNRECOGNIZED with any length, whatever the open tag bits. -/
def Obligations.UnassignedTagsAreUnrecognized : Prop :=
  ∀ (l1 : BitVec 1) (l2 : BitVec 2) (l5 : BitVec 5) (l6 : BitVec 6) (l7 : BitVec 7) (len : Half)
    (value : List Byte) (s : State), s.phase = .dispatch →
    ∀ i ∈ [Instr.tagUnassigned19 len value, .tagUnassigned1A l1 len value, .tagUnassigned1C l2 len value,
        .tagUnassigned20 l5 len value, .tagUnassigned40 l6 len value, .tagUnassigned80 l7 len value],
      ∃ t, exec i s = .next t ∧ dispatchedTo .unrecognized s.perr s t

/-- R240, R242, R290, R291: TAG_SYNC_PARAMS in DISPATCH, minimum SYNC_SCALAR_LEN + 40. -/
def Obligations.SyncParamsDispatch : Prop :=
  ∀ (len : Half) (value : List Byte) (s : State), s.phase = .dispatch →
    ∃ t, exec (.tagSyncParams len value) s = .next t ∧
      dispatchOutcome 4 .sync (s.params.syncScalarLen + 40) len.toNat s t

/-- R240, R242, R305, R307: TAG_ELECTION_PARAMS in DISPATCH, minimum 21. -/
def Obligations.ElectionParamsDispatch : Prop :=
  ∀ (len : Half) (value : List Byte) (s : State), s.phase = .dispatch →
    ∃ t, exec (.tagElectionParams len value) s = .next t ∧ dispatchOutcome 5 .electionV1 21 len.toNat s t

/-- R240, R242, R315, R317: TAG_ELECTION_PARAMS_V2 in DISPATCH, minimum 40. -/
def Obligations.ElectionParamsV2Dispatch : Prop :=
  ∀ (len : Half) (value : List Byte) (s : State), s.phase = .dispatch →
    ∃ t, exec (.tagElectionParamsV2 len value) s = .next t ∧ dispatchOutcome 24 .electionV2 40 len.toNat s t

/-- R240, R242, R325, R327: TAG_CHANNEL_SEQUENCE in DISPATCH, minimum 41. -/
def Obligations.ChannelSequenceDispatch : Prop :=
  ∀ (len : Half) (value : List Byte) (s : State), s.phase = .dispatch →
    ∃ t, exec (.tagChannelSequence len value) s = .next t ∧ dispatchOutcome 18 .channelSeq 41 len.toNat s t

/-- R240, R241: dispatching any TLV gives its entry the KIND that PayloadKind gives its tag and length,
in every outcome of the step. -/
def Obligations.DispatchSetsPayloadKind : Prop :=
  ∀ (i : Instr) (s : State), s.phase = .dispatch →
    ∃ t, exec i s = .next t ∧
      t.entry s.didx.toNat = { s.entry s.didx.toNat with kind := payloadKind s.params i.tag i.len } ∧
      (t.phase = .error ↔ payloadKind s.params i.tag i.len = .truncatedPayload ∧ s.pfe = true)

/-- R167, R240: with every entry examined the DISPATCH step finishes the decode. -/
def Obligations.DispatchFinishes : Prop :=
  ∀ s : State, s.parserTurn → s.phase = .dispatch → s.didx = s.tidx →
    step s = .next { s with
      schedule := s.schedule.tail, tlvCount := s.tidx, irqPend := true, phase := .done }

/-! CLASSIFY and HEADER -/

/-- R180 to R187, R352: the CLASSIFY step reports the first failing check, in the order length, type,
BSSID, category, OUI; when none fails it moves to HEADER and changes nothing else. -/
def Obligations.ClassifyReportsFirstFailingCheck : Prop :=
  ∀ (s : State) (typeOk : Bool), s.parserTurn → s.phase = .classify →
    (typeOk = true ↔
      match s.params.packedTypeLayout with
      | .dot11Type6 => s.inFtype = 0x34
      | .fc8 => s.inFtype &&& 0xFC = 0xD0) →
    ∃ t, step s = .next t ∧ t.schedule = s.schedule.tail ∧ sameTable s t ∧
      (if s.params.maxFrameLen < s.inLen.toNat then raised .outOfBounds 0 s t
       else if typeOk = false then raised .clsNotMgmtAction 0 s t
       else if ¬ (s.inBssidLo = 0xFF002500 ∧ s.inBssidHi = 0x7394) then raised .clsBssidMismatch 0 s t
       else if s.inLen = 0 ∨ s.ibufByte 0 ≠ 127 then raised .clsCategoryMismatch 0 s t
       else if s.inLen.toNat < 4 ∨ ¬ (s.ibufByte 1 = 0x00 ∧ s.ibufByte 2 = 0x17 ∧ s.ibufByte 3 = 0xF2) then
         raised .clsOuiMismatch 0 s t
       else t = { s with schedule := s.schedule.tail, phase := .header })

/-- R200 to R202, R206: the HEADER step of a payload of 16 bytes or more copies the header bytes, splits
the version byte, sets the cursor to 16 and enters SEG; nothing else changes. -/
def Obligations.HeaderStepCopiesFields : Prop :=
  ∀ s : State, s.parserTurn → s.phase = .header → 16 ≤ s.inLen.toNat →
    s.inLen.toNat ≤ s.params.maxFrameLen →
    ∃ t, step s = .next t ∧ t.phase = .seg ∧ t.cursor = 16 ∧
      (∀ k < 4, t.hdr0.extractLsb' (8 * k) 8 = s.ibufByte k) ∧
      t.ptype = s.ibufByte 4 ∧ t.verMajor = (s.ibufByte 5).extractLsb' 4 4 ∧
      t.verMinor = (s.ibufByte 5).extractLsb' 0 4 ∧ t.subtype = s.ibufByte 6 ∧
      t.reservedByte = s.ibufByte 7 ∧
      (∀ k < 4, t.phyTxTime.extractLsb' (8 * k) 8 = s.ibufByte (8 + k)) ∧
      (∀ k < 4, t.targetTxTime.extractLsb' (8 * k) 8 = s.ibufByte (12 + k)) ∧
      t.tlvCount = s.tlvCount ∧ t.tidx = s.tidx ∧ t.didx = s.didx ∧ t.pwr = s.pwr ∧
      sameInputs s t ∧ sameFlags s t ∧ sameErr s t ∧ sameIbuf s t ∧ samePbuf s t ∧ sameTable s t ∧
      sameEnvironment s t ∧ t.schedule = s.schedule.tail

/-- R201: the HEADER step of a payload shorter than 16 bytes raises TRUNCATED_HEADER. -/
def Obligations.HeaderStepTruncated : Prop :=
  ∀ s : State, s.parserTurn → s.phase = .header → s.inLen.toNat < 16 →
    ∃ t, step s = .next t ∧ raised .truncatedHeader 0 s t ∧ sameTable s t ∧ t.schedule = s.schedule.tail

/-! Host commands -/

/-- R162: a CTRL write with START = 1 while not BUSY starts a decode: IE and PFE take bits 1 and 2, ERR,
flags, results, cursor and counters are cleared, the phase is CLASSIFY; inputs, buffers and table stay. -/
def Obligations.StartCommand : Prop :=
  ∀ (s : State) (d : Word) (later : List Input),
    s.schedule = .host (.write 32 0x004 d) :: later → s.phase.busy = false → d.getLsbD 0 = true →
    ∃ t, step s = .next t ∧ t.started ∧ t.ie = d.getLsbD 1 ∧ t.pfe = d.getLsbD 2 ∧
      t.params = s.params ∧ t.inLen = s.inLen ∧ t.inFtype = s.inFtype ∧ t.inBssidLo = s.inBssidLo ∧
      t.inBssidHi = s.inBssidHi ∧ t.entrySel = s.entrySel ∧ sameIbuf s t ∧ samePbuf s t ∧ sameTable s t ∧
      t.epoch = s.epoch ∧ t.reads = s.reads ∧ t.schedule = later ∧ t.responses = .ack :: s.responses

/-- R163: a CTRL write without START while not BUSY writes IE and PFE and nothing else; the interrupt
output follows at once. -/
def Obligations.CtrlWriteWithoutStart : Prop :=
  ∀ (s : State) (d : Word) (later : List Input),
    s.schedule = .host (.write 32 0x004 d) :: later → s.phase.busy = false → d.getLsbD 0 = false →
    ∃ t, step s = .next t ∧ t.irq = (d.getLsbD 1 && s.irqPend) ∧
      t = { s with
        schedule := later, responses := .ack :: s.responses, ie := d.getLsbD 1, pfe := d.getLsbD 2 }

/-- R164: a STATUS write while not BUSY clears IRQ_PEND where bit 2 is 1 and WDROP where bit 3 is 1; STATE,
PERR and everything else ignore it. -/
def Obligations.StatusWriteOneToClear : Prop :=
  ∀ (s : State) (d : Word) (later : List Input),
    s.schedule = .host (.write 32 0x008 d) :: later → s.phase.busy = false →
    step s = .next { s with
      schedule := later, responses := .ack :: s.responses,
      irqPend := if d.getLsbD 2 then false else s.irqPend,
      wdrop := if d.getLsbD 3 then false else s.wdrop }

/-- R37 to R41, R165: while not BUSY, a write of an input register or of ENTRY_SEL stores the defined
bits and nothing else. -/
def Obligations.InputRegisterWrites : Prop :=
  ∀ (s : State) (a : BusAddr) (d : Word) (later : List Input),
    s.schedule = .host (.write 32 a d) :: later → s.phase.busy = false →
    ∀ t : State, t = { s with schedule := later, responses := .ack :: s.responses } →
    (a = 0x010 → step s = .next { t with inLen := d.extractLsb' 0 16 }) ∧
    (a = 0x014 → step s = .next { t with inFtype := d.extractLsb' 0 8 }) ∧
    (a = 0x018 → step s = .next { t with inBssidLo := d }) ∧
    (a = 0x01C → step s = .next { t with inBssidHi := d.extractLsb' 0 16 }) ∧
    (a = 0x034 → step s = .next { t with entrySel := d.extractLsb' 0 16 })

/-- R30, R55, R86, R87, R165: while not BUSY, an aligned 32-bit write of a read-only or reserved register is
ignored, and so is every legal write of the PBUF window and every write of the reserved range, whatever its
width. (That an ignored write is acknowledged is the model's choice, log 3; so is which transactions to the
reserved range are legal, an aligned 32-bit one among them, log 7.) -/
def Obligations.ReadOnlyWritesIgnored : Prop :=
  ∀ (s : State) (width : Nat) (a : BusAddr) (d : Word) (later : List Input),
    s.schedule = .host (.write width a d) :: later → s.phase.busy = false →
    (width = 32 → a.toNat % 4 = 0 → a.toNat < 0x10000 →
      a ∉ [(0x004 : BusAddr), 0x008, 0x010, 0x014, 0x018, 0x01C, 0x034] →
      step s = .next { s with schedule := later, responses := .ack :: s.responses }) ∧
    (0x20000 ≤ a.toNat → a.toNat < 0x30000 →
      (width = 8 ∨ (width = 16 ∧ a.toNat % 2 = 0) ∨ (width = 32 ∧ a.toNat % 4 = 0)) →
      step s = .next { s with schedule := later, responses := .ack :: s.responses }) ∧
    (0x30000 ≤ a.toNat → ∃ r,
      step s = .next { s with schedule := later, responses := r :: s.responses } ∧
      (width = 32 → a.toNat % 4 = 0 → r = .ack))

/-- R85, R165: while not BUSY, a legal write of the IBUF window stores its bytes in little-endian lanes,
inside IBUF, and changes nothing else. -/
def Obligations.IbufWindowWrite : Prop :=
  ∀ (s : State) (width : Nat) (a : BusAddr) (d : Word) (later : List Input),
    s.schedule = .host (.write width a d) :: later → s.phase.busy = false →
    0x10000 ≤ a.toNat → a.toNat < 0x20000 →
    (width = 8 ∨ (width = 16 ∧ a.toNat % 2 = 0) ∨ (width = 32 ∧ a.toNat % 4 = 0)) →
    ∃ t, step s = .next t ∧
      (∀ k, k < width / 8 → a.toNat - 0x10000 + k < s.params.maxFrameLen →
        t.ibufByte (a.toNat - 0x10000 + k) = d.extractLsb' (8 * k) 8) ∧
      (∀ j, ¬ (a.toNat - 0x10000 ≤ j ∧ j < a.toNat - 0x10000 + width / 8 ∧ j < s.params.maxFrameLen) →
        t.ibufByte j = s.ibufByte j) ∧
      t = { s with schedule := later, responses := .ack :: s.responses, ibuf := t.ibuf }

/-- R88: window offsets at or beyond MAX_FRAME_LEN read as 0, byte by byte, in every phase, and ignore
writes: a write that starts there is acknowledged and changes nothing, and no window write changes a byte there.
(That R88 gives 0 for the PBUF window also where R57 and R168 leave PBUF reads open, while BUSY and outside DONE,
is the model's reading, log 14; that an ignored write is acknowledged is the model's choice, log 3.) -/
def Obligations.WindowBeyondMaxFrameLen : Prop :=
  ∀ (s : State) (width : Nat) (a : BusAddr) (d : Word) (later : List Input),
    0x10000 ≤ a.toNat → a.toNat < 0x30000 →
    (width = 8 ∨ (width = 16 ∧ a.toNat % 2 = 0) ∨ (width = 32 ∧ a.toNat % 4 = 0)) →
    (s.schedule = .host (.read width a) :: later →
      ∃ t v, step s = .next t ∧ t.responses = .data v :: s.responses ∧
        ∀ k, k < width / 8 → s.params.maxFrameLen ≤ a.toNat % 0x10000 + k → v.extractLsb' (8 * k) 8 = 0) ∧
    (s.schedule = .host (.write width a d) :: later → s.phase.busy = false →
      s.params.maxFrameLen ≤ a.toNat % 0x10000 →
      step s = .next { s with schedule := later, responses := .ack :: s.responses }) ∧
    (s.schedule = .host (.write width a d) :: later →
      ∃ t, step s = .next t ∧
        ∀ j, s.params.maxFrameLen ≤ j → t.ibufByte j = s.ibufByte j ∧ t.pbufByte j = s.pbufByte j)

/-- R392: a legal write while BUSY is dropped and sets WDROP; an illegal one gets BUS_ERR and does not. (That a
dropped write is acknowledged is the model's choice, log 3; so is which transactions to the reserved range are
legal, log 7.) -/
def Obligations.WriteWhileBusyDropped : Prop :=
  ∀ (s : State) (width : Nat) (a : BusAddr) (d : Word) (later : List Input),
    s.schedule = .host (.write width a d) :: later → s.phase.busy = true →
    (legalAccess width a = true →
      step s = .next { s with schedule := later, responses := .ack :: s.responses, wdrop := true }) ∧
    (legalAccess width a = false →
      step s = .next { s with schedule := later, responses := .busErr :: s.responses })

/-- R87, R348: a transaction of an illegal width or alignment gets BUS_ERR and changes no state of the
block. (R87 gives the legal widths of the CSR space and the two windows; that other widths and alignments are
illegal in the reserved range 0x30000 to 0x3FFFF is the model's choice, log 7.) -/
def Obligations.IllegalAccessBusError : Prop :=
  ∀ (s : State) (width : Nat) (a : BusAddr) (d : Word) (op : HostOp) (later : List Input),
    op = .read width a ∨ op = .write width a d → s.schedule = .host op :: later →
    (if a.toNat < 0x10000 then ¬ (width = 32 ∧ a.toNat % 4 = 0)
     else ¬ (width = 8 ∨ (width = 16 ∧ a.toNat % 2 = 0) ∨ (width = 32 ∧ a.toNat % 4 = 0))) →
    step s = .next { s with schedule := later, responses := .busErr :: s.responses }

/-- R91: a read changes nothing but the model's own record of it. -/
def Obligations.ReadsHaveNoSideEffect : Prop :=
  ∀ (s : State) (width : Nat) (a : BusAddr) (later : List Input),
    s.schedule = .host (.read width a) :: later →
    ∃ (r : Response) (n : Nat),
      step s = .next { s with schedule := later, responses := r :: s.responses, reads := n }

/-! Host reads -/

/-- R31, R55, R86: ID reads its constant, and reserved CSR addresses and the reserved range read 0, in every
phase. (Which transactions to the reserved range are legal is the model's choice, log 7: an aligned 32-bit read
is, a narrower one reads 0 or gets BUS_ERR.) -/
def Obligations.ConstantRegisters : Prop :=
  ∀ (s : State) (width : Nat) (a : BusAddr) (later : List Input),
    s.schedule = .host (.read width a) :: later →
    (width = 32 → a = 0x000 → ∃ t, step s = .next t ∧ t.responses = .data 0x54535001 :: s.responses) ∧
    (width = 32 → a.toNat % 4 = 0 → 0x040 ≤ a.toNat ∧ a.toNat < 0x100 ∨ 0x200 ≤ a.toNat ∧ a.toNat < 0x10000 →
      ∃ t, step s = .next t ∧ t.responses = .data 0 :: s.responses) ∧
    (0x30000 ≤ a.toNat → ∃ t r, step s = .next t ∧ t.responses = r :: s.responses ∧
      (r = .data 0 ∨ r = .busErr) ∧ (width = 32 → a.toNat % 4 = 0 → r = .data 0))

/-- R32, R33, R51, R37 to R41, R57, R85, R86: CTRL, STATUS, the input registers, ENTRY_SEL and IBUF read their
current values in every phase: the registers with reserved bits 0, STATUS.STATE by its numbers, and the IBUF
window, below MAX_FRAME_LEN, in little-endian lanes at every legal width. -/
def Obligations.ControlAndInputReads : Prop :=
  ∀ (s : State) (width : Nat) (a : BusAddr) (later : List Input),
    s.schedule = .host (.read width a) :: later →
    (width = 32 → ∀ v : Nat,
      (a = 0x004 ∧ v = 2 * s.ie.toNat + 4 * s.pfe.toNat) ∨
      (a = 0x008 ∧ v = (match s.phase with
          | .idle => 0
          | .classify | .header | .seg | .dispatch => 1
          | .done => 2
          | .error => 3) + 4 * s.irqPend.toNat + 8 * s.wdrop.toNat + 16 * s.perr.toNat) ∨
      (a = 0x010 ∧ v = s.inLen.toNat) ∨ (a = 0x014 ∧ v = s.inFtype.toNat) ∨
      (a = 0x018 ∧ v = s.inBssidLo.toNat) ∨ (a = 0x01C ∧ v = s.inBssidHi.toNat) ∨
      (a = 0x034 ∧ v = s.entrySel.toNat) →
      ∃ t, step s = .next t ∧ t.responses = .data (BitVec.ofNat 32 v) :: s.responses) ∧
    (0x10000 ≤ a.toNat → a.toNat < 0x20000 →
      (width = 8 ∨ (width = 16 ∧ a.toNat % 2 = 0) ∨ (width = 32 ∧ a.toNat % 4 = 0)) →
      ∃ t v, step s = .next t ∧ t.responses = .data v :: s.responses ∧
        (∀ k, k < width / 8 → a.toNat - 0x10000 + k < s.params.maxFrameLen →
          v.extractLsb' (8 * k) 8 = s.ibufByte (a.toNat - 0x10000 + k)) ∧
        v.toNat < 2 ^ width)

/-- R34, R42 to R46, R341: while not BUSY, ERR, the header registers and TLV_COUNT read their values, ERR.CODE by
the numbers of R341. -/
def Obligations.ResultReads : Prop :=
  ∀ (s : State) (a : BusAddr) (later : List Input),
    s.schedule = .host (.read 32 a) :: later → s.phase.busy = false →
    ∀ v : Nat,
      (a = 0x00C ∧ v = (match s.errCode with
          | .none => 0
          | .clsNotMgmtAction => 1
          | .clsBssidMismatch => 2
          | .clsCategoryMismatch => 3
          | .clsOuiMismatch => 4
          | .truncatedHeader => 5
          | .truncatedTlv => 6
          | .truncatedTlvPayload => 7
          | .outOfBounds => 8
          | .tlvTableOverflow => 9) + 256 * s.errTag.toNat) ∨
      (a = 0x020 ∧ v = s.hdr0.toNat) ∨ (a = 0x024 ∧ v = s.hdr1.toNat) ∨
      (a = 0x028 ∧ v = s.phyTxTime.toNat) ∨ (a = 0x02C ∧ v = s.targetTxTime.toNat) ∨
      (a = 0x030 ∧ v = s.tlvCount.toNat) →
    ∃ t, step s = .next t ∧ t.responses = .data (BitVec.ofNat 32 v) :: s.responses

/-- R47, R48, R53: while not BUSY, ENTRY_INFO and ENTRY_POFF show the selected entry in DONE below TLV_COUNT,
KIND by the numbers of R53, and read 0 otherwise. -/
def Obligations.EntryReads : Prop :=
  ∀ (s : State) (a : BusAddr) (later : List Input) (e : TlvEntry),
    s.schedule = .host (.read 32 a) :: later → s.phase.busy = false → s.entry s.entrySel.toNat = e →
    ∀ shown : Bool, (shown = true ↔ s.phase = .done ∧ s.entrySel.toNat < s.tlvCount.toNat) →
    (a = 0x038 → ∃ t v, step s = .next t ∧ t.responses = .data v :: s.responses ∧
      v.toNat = if shown then e.tag.toNat + 2 ^ 8 * (match e.kind with
          | .none => 0
          | .sync => 1
          | .electionV1 => 2
          | .channelSeq => 3
          | .electionV2 => 4
          | .unrecognized => 5
          | .truncatedPayload => 6) + 2 ^ 16 * e.len.toNat else 0) ∧
    (a = 0x03C → ∃ t v, step s = .next t ∧ t.responses = .data v :: s.responses ∧
      v.toNat = if shown then e.poff.toNat else 0)

/-- R292, R290: in DONE, FIELD[k] of a selected SYNC entry. -/
def Obligations.SyncFieldWindow : Prop :=
  ∀ (s : State) (k : Nat) (later : List Input) (e : TlvEntry) (b : Nat → Byte),
    s.schedule = .host (.read 32 (BitVec.ofNat 18 (0x100 + 4 * k))) :: later → k < 64 → s.phase = .done →
    s.entrySel.toNat < s.tlvCount.toNat → s.entry s.entrySel.toNat = e → e.kind = .sync →
    s.params.syncScalarLen + 40 ≤ e.len.toNat → (∀ o, b o = s.pbufByte (e.poff.toNat + o)) →
    ∃ t v, step s = .next t ∧ t.responses = .data v :: s.responses ∧
      (∀ j < 16, k = 2 * j → v = 0#24 ++ b (s.params.syncScalarLen + 6 + 2 * j)) ∧
      (∀ j < 16, k = 2 * j + 1 → v = 0#24 ++ b (s.params.syncScalarLen + 7 + 2 * j)) ∧
      (32 ≤ k → v = 0)

/-- R306, R305: in DONE, FIELD[k] of a selected ELECTION_V1 entry. -/
def Obligations.ElectionV1FieldWindow : Prop :=
  ∀ (s : State) (k : Nat) (later : List Input) (e : TlvEntry) (b : Nat → Byte),
    s.schedule = .host (.read 32 (BitVec.ofNat 18 (0x100 + 4 * k))) :: later → k < 64 → s.phase = .done →
    s.entrySel.toNat < s.tlvCount.toNat → s.entry s.entrySel.toNat = e → e.kind = .electionV1 →
    21 ≤ e.len.toNat → (∀ o, b o = s.pbufByte (e.poff.toNat + o)) →
    ∃ t, step s = .next t ∧ t.responses = .data (
      match k with
      | 0 => 0#24 ++ b 0
      | 1 => 0#16 ++ b 2 ++ b 1
      | 2 => 0#24 ++ b 3
      | 3 => 0#24 ++ b 4
      | 4 => b 14 ++ b 13 ++ b 12 ++ b 11
      | 5 => b 18 ++ b 17 ++ b 16 ++ b 15
      | _ => 0) :: s.responses

/-- R316, R315: in DONE, FIELD[k] of a selected ELECTION_V2 entry. -/
def Obligations.ElectionV2FieldWindow : Prop :=
  ∀ (s : State) (k : Nat) (later : List Input) (e : TlvEntry) (b : Nat → Byte),
    s.schedule = .host (.read 32 (BitVec.ofNat 18 (0x100 + 4 * k))) :: later → k < 64 → s.phase = .done →
    s.entrySel.toNat < s.tlvCount.toNat → s.entry s.entrySel.toNat = e → e.kind = .electionV2 →
    40 ≤ e.len.toNat → (∀ o, b o = s.pbufByte (e.poff.toNat + o)) →
    ∃ t, step s = .next t ∧ t.responses = .data (
      if k < 7 then b (15 + 4 * k) ++ b (14 + 4 * k) ++ b (13 + 4 * k) ++ b (12 + 4 * k) else 0) :: s.responses

/-- R326, R325, R328, R329: in DONE, FIELD[k] of a selected CHANNEL_SEQ entry. -/
def Obligations.ChannelSeqFieldWindow : Prop :=
  ∀ (s : State) (k : Nat) (later : List Input) (e : TlvEntry) (b : Nat → Byte),
    s.schedule = .host (.read 32 (BitVec.ofNat 18 (0x100 + 4 * k))) :: later → k < 64 → s.phase = .done →
    s.entrySel.toNat < s.tlvCount.toNat → s.entry s.entrySel.toNat = e → e.kind = .channelSeq →
    41 ≤ e.len.toNat → (∀ o, b o = s.pbufByte (e.poff.toNat + o)) →
    ∃ t, step s = .next t ∧ t.responses = .data (
      if k < 4 then 0#24 ++ b k
      else if k = 4 then 0#16 ++ b 5 ++ b 4
      else if k < 37 then 0#24 ++ b (k + 1)
      else 0) :: s.responses

/-- R54, R270: while not BUSY, FIELD[0] to FIELD[63] read 0 unless a decoded entry is shown: outside DONE, for
ENTRY_SEL at or above TLV_COUNT, and for an entry of KIND NONE, UNRECOGNIZED or TRUNCATED_PAYLOAD. In DONE the
host reads an entry's raw bytes from PBUF. -/
def Obligations.NoFieldsWithoutDecoder : Prop :=
  ∀ (s : State) (a : BusAddr) (k : Nat) (width : Nat) (later : List Input) (e : TlvEntry),
    s.schedule = .host (.read width a) :: later → s.phase.busy = false → s.entry s.entrySel.toNat = e →
    (width = 32 → k < 64 → a = BitVec.ofNat 18 (0x100 + 4 * k) →
      s.phase ≠ .done ∨ s.tlvCount.toNat ≤ s.entrySel.toNat ∨
        e.kind = .none ∨ e.kind = .unrecognized ∨ e.kind = .truncatedPayload →
      ∃ t, step s = .next t ∧ t.responses = .data 0 :: s.responses) ∧
    (width = 8 → s.phase = .done → k < e.len.toNat → e.poff.toNat + k < s.pwr.toNat →
      e.poff.toNat + k < s.params.maxFrameLen → a.toNat = 0x20000 + e.poff.toNat + k →
      ∃ t, step s = .next t ∧ t.responses = .data (0#24 ++ s.pbufByte (e.poff.toNat + k)) :: s.responses)

/-- R85, R168: in DONE a legal read of the PBUF window below PWR gives the payload bytes in little-endian
lanes. -/
def Obligations.PbufWindowRead : Prop :=
  ∀ (s : State) (width : Nat) (a : BusAddr) (later : List Input),
    s.schedule = .host (.read width a) :: later → s.phase = .done →
    0x20000 ≤ a.toNat → a.toNat < 0x30000 →
    (width = 8 ∨ (width = 16 ∧ a.toNat % 2 = 0) ∨ (width = 32 ∧ a.toNat % 4 = 0)) →
    a.toNat - 0x20000 + width / 8 ≤ s.pwr.toNat → s.pwr.toNat ≤ s.params.maxFrameLen →
    ∃ t v, step s = .next t ∧ t.responses = .data v :: s.responses ∧
      (∀ k, k < width / 8 → v.extractLsb' (8 * k) 8 = s.pbufByte (a.toNat - 0x20000 + k)) ∧
      v.toNat < 2 ^ width

/-! Reset and interrupt -/

/-- R56, R350, R351: the interrupt output is IE AND IRQ_PEND, and 0 after reset. -/
def Obligations.InterruptOutput : Prop :=
  (∀ s : State, s.irq = true ↔ s.ie = true ∧ s.irqPend = true) ∧ State.reset.irq = false

/-- R380 to R382: `rst` at any time puts every register at its reset value and the phase at IDLE;
`State.reset` holds the same values. (R382 leaves the contents of buffers and table unspecified; that the model then
lists no written byte or entry, so that each is a free value chosen anew, and what `rst` keeps, are the model's
choice, logs 4, 6 and 16.) -/
def Obligations.ResetFromAnyState : Prop :=
  ∀ (s : State) (later : List Input), s.schedule = .rst :: later →
    ∃ t, step s = .next t ∧
      ∀ u ∈ [t, State.reset],
        u.phase = .idle ∧ u.ie = false ∧ u.pfe = false ∧ u.irqPend = false ∧ u.wdrop = false ∧
        u.perr = false ∧ u.statusWord = 0 ∧ u.ctrlWord = 0 ∧ u.errWord = 0 ∧ u.inLen = 0 ∧ u.inFtype = 0 ∧
        u.inBssidLo = 0 ∧ u.inBssidHi = 0 ∧ u.entrySel = 0 ∧ clearedResults u ∧ u.cursor = 0 ∧
        u.tidx = 0 ∧ u.didx = 0 ∧ u.pwr = 0 ∧ u.ibuf = [] ∧ u.pbuf = [] ∧ u.tlvt = [] ∧ u.irq = false

/-! Rules of the whole block -/

/-- R160, R161, R355, R380: the phase graph. The parser's turn follows the arrows, DISPATCH to ERROR only with
PFE = 1; a host transaction moves the phase only as START, to CLASSIFY; `rst` moves it to IDLE. -/
def Obligations.PhaseGraph : Prop :=
  ∀ s t : State, step s = .next t →
    (s.parserTurn →
      match s.phase with
      | .idle => t.phase = .idle
      | .classify => t.phase = .header ∨ t.phase = .error
      | .header => t.phase = .seg ∨ t.phase = .error
      | .seg => t.phase = .seg ∨ t.phase = .dispatch ∨ t.phase = .error
      | .dispatch => t.phase = .dispatch ∨ t.phase = .done ∨ (t.phase = .error ∧ s.pfe = true)
      | .done => t.phase = .done
      | .error => t.phase = .error) ∧
    (∀ op later, s.schedule = .host op :: later →
      ((s.phase.busy = false ∧ ∃ d, op = .write 32 0x004 d ∧ d.getLsbD 0 = true) → t.phase = .classify) ∧
      (¬ (s.phase.busy = false ∧ ∃ d, op = .write 32 0x004 d ∧ d.getLsbD 0 = true) → t.phase = s.phase)) ∧
    (∀ later, s.schedule = .rst :: later → t.phase = .idle)

/-- R33, R166, R167, R350, R392: IRQ_PEND is set by entry to DONE or ERROR and by nothing else; WDROP is set
by a dropped write and by nothing else; PERR is set by the dispatch of a short entry with PFE = 0 and by
nothing else. -/
def Obligations.FlagsAreSetOnlyByTheirEvents : Prop :=
  ∀ s t : State, step s = .next t →
    (s.phase.busy = true → (t.phase = .done ∨ t.phase = .error) → t.irqPend = true) ∧
    (s.irqPend = false → t.irqPend = true →
      s.parserTurn ∧ s.phase.busy = true ∧ (t.phase = .done ∨ t.phase = .error)) ∧
    (s.wdrop = false → t.wdrop = true →
      s.phase.busy = true ∧ ∃ w a d later,
        s.schedule = .host (.write w a d) :: later ∧ legalAccess w a = true) ∧
    (s.perr = false → t.perr = true →
      s.parserTurn ∧ s.phase = .dispatch ∧ s.pfe = false ∧
        (t.entry s.didx.toNat).kind = .truncatedPayload)

/-- R394: a Frame record or error stays as it is until the next accepted START or reset, whatever else the
host reads or writes. -/
def Obligations.ResultsLastUntilStart : Prop :=
  ∀ s t : State, (s.phase = .done ∨ s.phase = .error) → step s = .next t →
    s.schedule.head? ≠ some .rst →
    (∀ d later, s.schedule = .host (.write 32 0x004 d) :: later → d.getLsbD 0 = false) →
    t.phase = s.phase ∧ sameResults s t ∧ sameErr s t ∧ t.perr = s.perr ∧ sameTable s t ∧ samePbuf s t ∧
      sameCounters s t ∧ ∀ e k, t.fieldOf e k = s.fieldOf e k

/-! Invariants and whole decodes -/

/-- R11 to R14: no step changes the parameters. -/
def Obligations.ParametersAreConstant : Prop :=
  ∀ s t : State, step s = .next t → t.params = s.params

/-- R34, R49 to R53, R100, R216, R222, R224, R228, R243: every step, whoever moves, keeps the invariant of
the block. -/
def Obligations.StepKeepsInvariant : Prop :=
  ∀ s t : State, Inv s → step s = .next t → Inv t

/-- The state after reset meets the invariant, the copy invariant and the header invariant. -/
def Obligations.ResetMeetsInvariants : Prop :=
  Inv State.reset ∧ CopyInv State.reset ∧ HeaderInv State.reset

/-- R219, R222: while a decode runs, every table entry and payload copy are the bytes of the payload at
the cursor they were read from; every step keeps this. -/
def Obligations.StepKeepsPayloadCopies : Prop :=
  ∀ s t : State, Inv s → CopyInv s → step s = .next t → CopyInv t

/-- R204: in every DONE result HDR0 holds the accepted category code and OUI; every step keeps the
invariant that says so. -/
def Obligations.StepKeepsAcceptedHeader : Prop :=
  (∀ s t : State, HeaderInv s → step s = .next t → HeaderInv t) ∧
  (∀ s : State, HeaderInv s → s.phase = .done → s.hdr0.extractLsb' 0 8 = 127 ∧ s.hdr0.extractLsb' 8 24 = 0xF21700)

/-- R161, R172: the parser's step neither reads nor writes WDROP, the responses or the read counter: two
states that agree on all else go to states that agree on all else. -/
def Obligations.ParserStepIgnoresHostRecord : Prop :=
  ∀ s u : State, s.parserTurn → u.parserTurn → s.parserView = u.parserView →
    ∃ t v, step s = .next t ∧ step u = .next v ∧ t.parserView = v.parserView

/-- R96, R172, R392: whatever the host reads or writes while a decode runs, the decode goes through the
states of the undisturbed decode: after `k` steps, all taken while BUSY, with no reset among them, the block
is where some `m <= k` undisturbed parser steps take it. -/
def Obligations.InterleavedDecodeIsUndisturbed : Prop :=
  ∀ (k : Nat) (s u : State), s.parserView = u.parserView → u.schedule = [] → .rst ∉ s.schedule →
    (∀ j < k, ∀ w, Host.Core.run Sys2Proof.core j s = .next w → w.phase.busy = true) →
    ∃ t m v, Host.Core.run Sys2Proof.core k s = .next t ∧ m ≤ k ∧
      Host.Core.run Sys2Proof.core m u = .next v ∧ t.parserView = v.parserView

/-- R169, R170, R171: from an accepted START, the parser's steps end a decode exactly as the reference
function says: in DONE after 2T + 4 steps, BUSY until then, showing the Frame record; or in ERROR with its
code and tag, within the step bound. The inputs and IBUF are as they were. -/
def Obligations.DecodeRefinesReference : Prop :=
  ∀ s : State, s.params.valid → s.started → s.schedule = [] →
    (∀ f, referenceDecode s = .ok f →
      ∃ t, Host.Core.run Sys2Proof.core (2 * f.entries.length + 4) s = .next t ∧ t.shows f ∧
        sameInputs s t ∧ sameIbuf s t ∧
        ∀ k < 2 * f.entries.length + 4, ∃ u, Host.Core.run Sys2Proof.core k s = .next u ∧ u.phase.busy = true) ∧
    (∀ e tag, referenceDecode s = .error (e, tag) →
      ∃ k t, k ≤ 2 * ((s.inLen.toNat - 16) / 3) + 4 ∧ Host.Core.run Sys2Proof.core k s = .next t ∧
        t.phase = .error ∧ t.errCode = e ∧ t.errTag = tag ∧ clearedResults t ∧ t.perr = false ∧
        t.irqPend = true ∧ sameInputs s t ∧ sameIbuf s t)
end

