-- ==== Sys2Proof/Laws/Decode.lean ====
section
/-! SUPPORT. Byte order and the decoder: the small lemmas that proofs about encodings cite. -/

namespace Sys2Proof

@[simp] theorem le_nil : le [] = 0 := rfl
@[simp] theorem le_cons (b : Byte) (bs : List Byte) : le (b :: bs) = b.toNat + 256 * le bs := rfl

/-- A byte sequence of length `n` assembles to a number below `256 ^ n`. -/
theorem le_lt (bs : List Byte) : le bs < 256 ^ bs.length := by
  induction bs with
  | nil => simp
  | cons b bs ih =>
    have := b.isLt
    rw [le_cons, List.length_cons, Nat.pow_succ]
    omega

@[simp] theorem bytesOf_length (n v : Nat) : (bytesOf n v).length = n := by
  induction n generalizing v with
  | zero => rfl
  | succ n ih => simp [bytesOf, ih]

/-- `le` undoes `bytesOf` on the bytes kept. -/
theorem le_bytesOf (n v : Nat) : le (bytesOf n v) = v % 256 ^ n := by
  induction n generalizing v with
  | zero => simp [bytesOf, Nat.mod_one]
  | succ n ih =>
    have h : v % 256 ^ (n + 1) = v % 256 + 256 * (v / 256 % 256 ^ n) := by
      rw [Nat.pow_succ', Nat.mod_mul]
    rw [bytesOf, le_cons, ih, BitVec.toNat_ofNat, h]

/-- The 16-bit little-endian number of two bytes (R126: `L = IBUF[c+1] + 256 * IBUF[c+2]`). -/
@[simp] theorem le16_toNat (lo hi : Byte) : (le16 lo hi).toNat = lo.toNat + 256 * hi.toNat := by
  have := lo.isLt
  rw [le16, BitVec.toNat_append, Nat.shiftLeft_eq, Nat.mul_comm, ← Nat.two_pow_add_eq_or_of_lt this]
  omega

/-- A length field is the two bytes it is stored in. -/
@[simp] theorem le16_extract (v : Half) : le16 (v.extractLsb' 0 8) (v.extractLsb' 8 8) = v := by
  apply BitVec.eq_of_toNat_eq
  have := v.isLt
  simp only [le16_toNat, BitVec.extractLsb'_toNat, Nat.shiftRight_eq_div_pow]
  omega

@[simp] theorem le16_extract_lo (lo hi : Byte) : (le16 lo hi).extractLsb' 0 8 = lo := by
  apply BitVec.eq_of_toNat_eq
  have := lo.isLt
  simp only [le16_toNat, BitVec.extractLsb'_toNat, Nat.shiftRight_zero]
  omega

@[simp] theorem le16_extract_hi (lo hi : Byte) : (le16 lo hi).extractLsb' 8 8 = hi := by
  apply BitVec.eq_of_toNat_eq
  have := lo.isLt
  have := hi.isLt
  simp only [le16_toNat, BitVec.extractLsb'_toNat, Nat.shiftRight_eq_div_pow]
  omega

/-- The operands of a TLV built from its parts are those parts, whatever the tag. -/
theorem instrOf_operands (tag : Byte) (len : Half) (value : List Byte) :
    (instrOf tag len value).operands = (len, value) := by
  unfold instrOf
  cases opcodeOf tag <;> rfl

@[simp] theorem instrOf_len (tag : Byte) (len : Half) (value : List Byte) :
    (instrOf tag len value).len = len := by simp [Instr.len, instrOf_operands]

@[simp] theorem instrOf_value (tag : Byte) (len : Half) (value : List Byte) :
    (instrOf tag len value).value = value := by simp [Instr.value, instrOf_operands]

/-- The tag byte of a TLV with no operands but a zero length: what `instrOf` gives back for each tag. -/
theorem instrOf_tag_nil : ∀ tag : Byte, (instrOf tag 0 []).tag = tag := by decide +kernel

/-- The tag byte of a TLV built from its parts is the tag it was built from: no bit of it is dropped. -/
@[simp] theorem instrOf_tag (tag : Byte) (len : Half) (value : List Byte) :
    (instrOf tag len value).tag = tag := by
  have h := instrOf_tag_nil tag
  unfold instrOf at h ⊢
  cases hop : opcodeOf tag <;> rw [hop] at h <;> exact h

end Sys2Proof
end

