-- ==== Sys2Proof/Laws/Memory.lean ====
section
/-! SUPPORT. Sparse arrays and buffers: a read after a write, and the canonical form under every
operation that writes one. -/

namespace Sys2Proof.Machine

variable {α : Type}

/-- A read of a sparse array after a write of one index. -/
@[simp] theorem Store.get?_set (m : Store α) (i j : Nat) (x : α) :
    Store.get? (Store.set m i x) j = if j = i then some x else Store.get? m j := by
  induction m with
  | nil => by_cases h : j = i <;> simp [Store.set, Store.get?, h]
  | cons c rest ih =>
    obtain ⟨k, v⟩ := c
    by_cases h1 : i < k
    · by_cases h : j = i <;> simp [Store.set, Store.get?, h1, h]
    · by_cases h2 : i = k
      · subst h2
        by_cases h : j = i <;> simp [Store.set, Store.get?, h]
      · by_cases h3 : j = k
        · have h4 : ¬ k = i := fun e => h2 e.symm
          simp [Store.set, Store.get?, h1, h2, h3, h4]
        · simp [Store.set, Store.get?, h1, h2, h3, ih]

/-- Where the indices of a written array come from. -/
theorem Store.mem_set {m : Store α} {i : Nat} {x : α} {c : Nat × α} (h : c ∈ Store.set m i x) :
    c = (i, x) ∨ c ∈ m := by
  induction m with
  | nil => simpa [Store.set] using h
  | cons d rest ih =>
    obtain ⟨k, v⟩ := d
    simp only [Store.set] at h
    split at h
    · simpa using h
    · split at h
      · rcases List.mem_cons.1 h with h | h
        · exact .inl h
        · exact .inr (List.mem_cons_of_mem _ h)
      · rcases List.mem_cons.1 h with h | h
        · exact .inr (h ▸ List.mem_cons_self ..)
        · rcases ih h with h | h
          · exact .inl h
          · exact .inr (List.mem_cons_of_mem _ h)

/-- A write inside the array keeps the canonical form. -/
theorem Store.wf_set {cap : Nat} {m : Store α} {i : Nat} {x : α} (h : Store.wf cap m) (hi : i < cap) :
    Store.wf cap (Store.set m i x) := by
  refine ⟨?_, fun c hc => ?_⟩
  · obtain ⟨hp, -⟩ := h
    induction m with
    | nil => simp [Store.set]
    | cons d rest ih =>
      obtain ⟨k, v⟩ := d
      rw [List.pairwise_cons] at hp
      simp only [Store.set]
      split
      · rename_i hik
        refine List.pairwise_cons.2 ⟨fun c hc => ?_, List.pairwise_cons.2 hp⟩
        rcases List.mem_cons.1 hc with rfl | hc
        · exact hik
        · exact Nat.lt_trans hik (hp.1 c hc)
      · split
        · rename_i hk
          exact List.pairwise_cons.2 ⟨fun c hc => hk ▸ hp.1 c hc, hp.2⟩
        · refine List.pairwise_cons.2 ⟨fun c hc => ?_, ih hp.2⟩
          rcases Store.mem_set hc with rfl | hc
          · show k < i
            omega
          · exact hp.1 c hc
  · rcases Store.mem_set hc with rfl | hc
    · exact hi
    · exact h.2 c hc

/-- A buffer write keeps the canonical form, whatever the bytes and wherever they go. -/
theorem Memory.wf_writeBytes {cap : Nat} (bs : List Byte) (m : Memory) (off : Nat) (h : Memory.wf cap m) :
    Memory.wf cap (Memory.writeBytes cap m off bs) := by
  induction bs generalizing m off with
  | nil => exact h
  | cons b bs ih =>
    simp only [Memory.writeBytes]
    split
    · rename_i hlt
      exact ih _ _ (Store.wf_set h hlt)
    · exact h

/-- A byte of a buffer after a write: the written byte inside the written range (and inside the buffer),
the old one elsewhere. -/
theorem Memory.get?_writeBytes (cap : Nat) (bs : List Byte) (m : Memory) (off a : Nat) :
    Store.get? (Memory.writeBytes cap m off bs) a =
      if off ≤ a ∧ a < off + bs.length ∧ a < cap then bs[a - off]? else Store.get? m a := by
  induction bs generalizing m off with
  | nil => simp [Memory.writeBytes]; omega
  | cons b bs ih =>
    simp only [Memory.writeBytes]
    split
    · rename_i hlt
      rw [ih, Store.get?_set]
      by_cases ha : a = off
      · subst ha
        simp [hlt]
      · have e : a - off = a - (off + 1) + 1 ∨ a < off := by omega
        rcases e with e | e
        · rw [e, List.getElem?_cons_succ]
          simp only [ha, if_false, List.length_cons]
          by_cases hc : off + 1 ≤ a ∧ a < off + 1 + bs.length ∧ a < cap
          · rw [if_pos hc, if_pos (by omega)]
          · rw [if_neg hc, if_neg (by omega)]
        · rw [if_neg (by omega), if_neg ha, if_neg (by omega)]
    · rw [if_neg (by omega)]

end Sys2Proof.Machine
end

