-- ==== Sys2Proof/Laws/State.lean ====
section
/-! SUPPORT. What each named update of the state does to each field: one lemma per field per update, so
that no proof unfolds a record update. -/

namespace Sys2Proof.Machine

/-! `State.raise` -/

@[simp] theorem State.raise_params (s : State) (e : ErrCode) (tag : Byte) : (s.raise e tag).params = s.params := rfl
@[simp] theorem State.raise_ie (s : State) (e : ErrCode) (tag : Byte) : (s.raise e tag).ie = s.ie := rfl
@[simp] theorem State.raise_pfe (s : State) (e : ErrCode) (tag : Byte) : (s.raise e tag).pfe = s.pfe := rfl
@[simp] theorem State.raise_irqPend (s : State) (e : ErrCode) (tag : Byte) : (s.raise e tag).irqPend = true := rfl
@[simp] theorem State.raise_wdrop (s : State) (e : ErrCode) (tag : Byte) : (s.raise e tag).wdrop = s.wdrop := rfl
@[simp] theorem State.raise_perr (s : State) (e : ErrCode) (tag : Byte) : (s.raise e tag).perr = false := rfl
@[simp] theorem State.raise_errCode (s : State) (e : ErrCode) (tag : Byte) : (s.raise e tag).errCode = e := rfl
@[simp] theorem State.raise_errTag (s : State) (e : ErrCode) (tag : Byte) : (s.raise e tag).errTag = tag := rfl
@[simp] theorem State.raise_inLen (s : State) (e : ErrCode) (tag : Byte) : (s.raise e tag).inLen = s.inLen := rfl
@[simp] theorem State.raise_inFtype (s : State) (e : ErrCode) (tag : Byte) : (s.raise e tag).inFtype = s.inFtype := rfl
@[simp] theorem State.raise_inBssidLo (s : State) (e : ErrCode) (tag : Byte) : (s.raise e tag).inBssidLo = s.inBssidLo := rfl
@[simp] theorem State.raise_inBssidHi (s : State) (e : ErrCode) (tag : Byte) : (s.raise e tag).inBssidHi = s.inBssidHi := rfl
@[simp] theorem State.raise_entrySel (s : State) (e : ErrCode) (tag : Byte) : (s.raise e tag).entrySel = s.entrySel := rfl
@[simp] theorem State.raise_hdr0 (s : State) (e : ErrCode) (tag : Byte) : (s.raise e tag).hdr0 = 0 := rfl
@[simp] theorem State.raise_hdr1 (s : State) (e : ErrCode) (tag : Byte) : (s.raise e tag).hdr1 = 0 := rfl
@[simp] theorem State.raise_phyTxTime (s : State) (e : ErrCode) (tag : Byte) : (s.raise e tag).phyTxTime = 0 := rfl
@[simp] theorem State.raise_targetTxTime (s : State) (e : ErrCode) (tag : Byte) : (s.raise e tag).targetTxTime = 0 := rfl
@[simp] theorem State.raise_tlvCount (s : State) (e : ErrCode) (tag : Byte) : (s.raise e tag).tlvCount = 0 := rfl
@[simp] theorem State.raise_ibuf (s : State) (e : ErrCode) (tag : Byte) : (s.raise e tag).ibuf = s.ibuf := rfl
@[simp] theorem State.raise_pbuf (s : State) (e : ErrCode) (tag : Byte) : (s.raise e tag).pbuf = s.pbuf := rfl
@[simp] theorem State.raise_tlvt (s : State) (e : ErrCode) (tag : Byte) : (s.raise e tag).tlvt = s.tlvt := rfl
@[simp] theorem State.raise_cursor (s : State) (e : ErrCode) (tag : Byte) : (s.raise e tag).cursor = s.cursor := rfl
@[simp] theorem State.raise_phase (s : State) (e : ErrCode) (tag : Byte) : (s.raise e tag).phase = .error := rfl
@[simp] theorem State.raise_tidx (s : State) (e : ErrCode) (tag : Byte) : (s.raise e tag).tidx = s.tidx := rfl
@[simp] theorem State.raise_didx (s : State) (e : ErrCode) (tag : Byte) : (s.raise e tag).didx = s.didx := rfl
@[simp] theorem State.raise_pwr (s : State) (e : ErrCode) (tag : Byte) : (s.raise e tag).pwr = s.pwr := rfl
@[simp] theorem State.raise_epoch (s : State) (e : ErrCode) (tag : Byte) : (s.raise e tag).epoch = s.epoch := rfl
@[simp] theorem State.raise_reads (s : State) (e : ErrCode) (tag : Byte) : (s.raise e tag).reads = s.reads := rfl
@[simp] theorem State.raise_schedule (s : State) (e : ErrCode) (tag : Byte) : (s.raise e tag).schedule = s.schedule := rfl
@[simp] theorem State.raise_responses (s : State) (e : ErrCode) (tag : Byte) : (s.raise e tag).responses = s.responses := rfl

/-! `State.start` -/

@[simp] theorem State.start_params (s : State) : (s.start).params = s.params := rfl
@[simp] theorem State.start_ie (s : State) : (s.start).ie = s.ie := rfl
@[simp] theorem State.start_pfe (s : State) : (s.start).pfe = s.pfe := rfl
@[simp] theorem State.start_irqPend (s : State) : (s.start).irqPend = false := rfl
@[simp] theorem State.start_wdrop (s : State) : (s.start).wdrop = false := rfl
@[simp] theorem State.start_perr (s : State) : (s.start).perr = false := rfl
@[simp] theorem State.start_errCode (s : State) : (s.start).errCode = .none := rfl
@[simp] theorem State.start_errTag (s : State) : (s.start).errTag = 0 := rfl
@[simp] theorem State.start_inLen (s : State) : (s.start).inLen = s.inLen := rfl
@[simp] theorem State.start_inFtype (s : State) : (s.start).inFtype = s.inFtype := rfl
@[simp] theorem State.start_inBssidLo (s : State) : (s.start).inBssidLo = s.inBssidLo := rfl
@[simp] theorem State.start_inBssidHi (s : State) : (s.start).inBssidHi = s.inBssidHi := rfl
@[simp] theorem State.start_entrySel (s : State) : (s.start).entrySel = s.entrySel := rfl
@[simp] theorem State.start_hdr0 (s : State) : (s.start).hdr0 = 0 := rfl
@[simp] theorem State.start_hdr1 (s : State) : (s.start).hdr1 = 0 := rfl
@[simp] theorem State.start_phyTxTime (s : State) : (s.start).phyTxTime = 0 := rfl
@[simp] theorem State.start_targetTxTime (s : State) : (s.start).targetTxTime = 0 := rfl
@[simp] theorem State.start_tlvCount (s : State) : (s.start).tlvCount = 0 := rfl
@[simp] theorem State.start_ibuf (s : State) : (s.start).ibuf = s.ibuf := rfl
@[simp] theorem State.start_pbuf (s : State) : (s.start).pbuf = s.pbuf := rfl
@[simp] theorem State.start_tlvt (s : State) : (s.start).tlvt = s.tlvt := rfl
@[simp] theorem State.start_cursor (s : State) : (s.start).cursor = 0 := rfl
@[simp] theorem State.start_phase (s : State) : (s.start).phase = .classify := rfl
@[simp] theorem State.start_tidx (s : State) : (s.start).tidx = 0 := rfl
@[simp] theorem State.start_didx (s : State) : (s.start).didx = 0 := rfl
@[simp] theorem State.start_pwr (s : State) : (s.start).pwr = 0 := rfl
@[simp] theorem State.start_epoch (s : State) : (s.start).epoch = s.epoch := rfl
@[simp] theorem State.start_reads (s : State) : (s.start).reads = s.reads := rfl
@[simp] theorem State.start_schedule (s : State) : (s.start).schedule = s.schedule := rfl
@[simp] theorem State.start_responses (s : State) : (s.start).responses = s.responses := rfl

/-! `State.finish` -/

@[simp] theorem State.finish_params (s : State) : (s.finish).params = s.params := rfl
@[simp] theorem State.finish_ie (s : State) : (s.finish).ie = s.ie := rfl
@[simp] theorem State.finish_pfe (s : State) : (s.finish).pfe = s.pfe := rfl
@[simp] theorem State.finish_irqPend (s : State) : (s.finish).irqPend = true := rfl
@[simp] theorem State.finish_wdrop (s : State) : (s.finish).wdrop = s.wdrop := rfl
@[simp] theorem State.finish_perr (s : State) : (s.finish).perr = s.perr := rfl
@[simp] theorem State.finish_errCode (s : State) : (s.finish).errCode = s.errCode := rfl
@[simp] theorem State.finish_errTag (s : State) : (s.finish).errTag = s.errTag := rfl
@[simp] theorem State.finish_inLen (s : State) : (s.finish).inLen = s.inLen := rfl
@[simp] theorem State.finish_inFtype (s : State) : (s.finish).inFtype = s.inFtype := rfl
@[simp] theorem State.finish_inBssidLo (s : State) : (s.finish).inBssidLo = s.inBssidLo := rfl
@[simp] theorem State.finish_inBssidHi (s : State) : (s.finish).inBssidHi = s.inBssidHi := rfl
@[simp] theorem State.finish_entrySel (s : State) : (s.finish).entrySel = s.entrySel := rfl
@[simp] theorem State.finish_hdr0 (s : State) : (s.finish).hdr0 = s.hdr0 := rfl
@[simp] theorem State.finish_hdr1 (s : State) : (s.finish).hdr1 = s.hdr1 := rfl
@[simp] theorem State.finish_phyTxTime (s : State) : (s.finish).phyTxTime = s.phyTxTime := rfl
@[simp] theorem State.finish_targetTxTime (s : State) : (s.finish).targetTxTime = s.targetTxTime := rfl
@[simp] theorem State.finish_tlvCount (s : State) : (s.finish).tlvCount = s.tidx := rfl
@[simp] theorem State.finish_ibuf (s : State) : (s.finish).ibuf = s.ibuf := rfl
@[simp] theorem State.finish_pbuf (s : State) : (s.finish).pbuf = s.pbuf := rfl
@[simp] theorem State.finish_tlvt (s : State) : (s.finish).tlvt = s.tlvt := rfl
@[simp] theorem State.finish_cursor (s : State) : (s.finish).cursor = s.cursor := rfl
@[simp] theorem State.finish_phase (s : State) : (s.finish).phase = .done := rfl
@[simp] theorem State.finish_tidx (s : State) : (s.finish).tidx = s.tidx := rfl
@[simp] theorem State.finish_didx (s : State) : (s.finish).didx = s.didx := rfl
@[simp] theorem State.finish_pwr (s : State) : (s.finish).pwr = s.pwr := rfl
@[simp] theorem State.finish_epoch (s : State) : (s.finish).epoch = s.epoch := rfl
@[simp] theorem State.finish_reads (s : State) : (s.finish).reads = s.reads := rfl
@[simp] theorem State.finish_schedule (s : State) : (s.finish).schedule = s.schedule := rfl
@[simp] theorem State.finish_responses (s : State) : (s.finish).responses = s.responses := rfl

/-! `State.setKind` -/

@[simp] theorem State.setKind_params (s : State) (k : Kind) : (s.setKind k).params = s.params := rfl
@[simp] theorem State.setKind_ie (s : State) (k : Kind) : (s.setKind k).ie = s.ie := rfl
@[simp] theorem State.setKind_pfe (s : State) (k : Kind) : (s.setKind k).pfe = s.pfe := rfl
@[simp] theorem State.setKind_irqPend (s : State) (k : Kind) : (s.setKind k).irqPend = s.irqPend := rfl
@[simp] theorem State.setKind_wdrop (s : State) (k : Kind) : (s.setKind k).wdrop = s.wdrop := rfl
@[simp] theorem State.setKind_perr (s : State) (k : Kind) : (s.setKind k).perr = s.perr := rfl
@[simp] theorem State.setKind_errCode (s : State) (k : Kind) : (s.setKind k).errCode = s.errCode := rfl
@[simp] theorem State.setKind_errTag (s : State) (k : Kind) : (s.setKind k).errTag = s.errTag := rfl
@[simp] theorem State.setKind_inLen (s : State) (k : Kind) : (s.setKind k).inLen = s.inLen := rfl
@[simp] theorem State.setKind_inFtype (s : State) (k : Kind) : (s.setKind k).inFtype = s.inFtype := rfl
@[simp] theorem State.setKind_inBssidLo (s : State) (k : Kind) : (s.setKind k).inBssidLo = s.inBssidLo := rfl
@[simp] theorem State.setKind_inBssidHi (s : State) (k : Kind) : (s.setKind k).inBssidHi = s.inBssidHi := rfl
@[simp] theorem State.setKind_entrySel (s : State) (k : Kind) : (s.setKind k).entrySel = s.entrySel := rfl
@[simp] theorem State.setKind_hdr0 (s : State) (k : Kind) : (s.setKind k).hdr0 = s.hdr0 := rfl
@[simp] theorem State.setKind_hdr1 (s : State) (k : Kind) : (s.setKind k).hdr1 = s.hdr1 := rfl
@[simp] theorem State.setKind_phyTxTime (s : State) (k : Kind) : (s.setKind k).phyTxTime = s.phyTxTime := rfl
@[simp] theorem State.setKind_targetTxTime (s : State) (k : Kind) : (s.setKind k).targetTxTime = s.targetTxTime := rfl
@[simp] theorem State.setKind_tlvCount (s : State) (k : Kind) : (s.setKind k).tlvCount = s.tlvCount := rfl
@[simp] theorem State.setKind_ibuf (s : State) (k : Kind) : (s.setKind k).ibuf = s.ibuf := rfl
@[simp] theorem State.setKind_pbuf (s : State) (k : Kind) : (s.setKind k).pbuf = s.pbuf := rfl
@[simp] theorem State.setKind_tlvt (s : State) (k : Kind) : (s.setKind k).tlvt = Store.set s.tlvt s.didx.toNat { s.entry s.didx.toNat with kind := k } := rfl
@[simp] theorem State.setKind_cursor (s : State) (k : Kind) : (s.setKind k).cursor = s.cursor := rfl
@[simp] theorem State.setKind_phase (s : State) (k : Kind) : (s.setKind k).phase = s.phase := rfl
@[simp] theorem State.setKind_tidx (s : State) (k : Kind) : (s.setKind k).tidx = s.tidx := rfl
@[simp] theorem State.setKind_didx (s : State) (k : Kind) : (s.setKind k).didx = s.didx := rfl
@[simp] theorem State.setKind_pwr (s : State) (k : Kind) : (s.setKind k).pwr = s.pwr := rfl
@[simp] theorem State.setKind_epoch (s : State) (k : Kind) : (s.setKind k).epoch = s.epoch := rfl
@[simp] theorem State.setKind_reads (s : State) (k : Kind) : (s.setKind k).reads = s.reads := rfl
@[simp] theorem State.setKind_schedule (s : State) (k : Kind) : (s.setKind k).schedule = s.schedule := rfl
@[simp] theorem State.setKind_responses (s : State) (k : Kind) : (s.setKind k).responses = s.responses := rfl

/-! `State.respond` -/

@[simp] theorem State.respond_params (s : State) (r : Response) : (s.respond r).params = s.params := rfl
@[simp] theorem State.respond_ie (s : State) (r : Response) : (s.respond r).ie = s.ie := rfl
@[simp] theorem State.respond_pfe (s : State) (r : Response) : (s.respond r).pfe = s.pfe := rfl
@[simp] theorem State.respond_irqPend (s : State) (r : Response) : (s.respond r).irqPend = s.irqPend := rfl
@[simp] theorem State.respond_wdrop (s : State) (r : Response) : (s.respond r).wdrop = s.wdrop := rfl
@[simp] theorem State.respond_perr (s : State) (r : Response) : (s.respond r).perr = s.perr := rfl
@[simp] theorem State.respond_errCode (s : State) (r : Response) : (s.respond r).errCode = s.errCode := rfl
@[simp] theorem State.respond_errTag (s : State) (r : Response) : (s.respond r).errTag = s.errTag := rfl
@[simp] theorem State.respond_inLen (s : State) (r : Response) : (s.respond r).inLen = s.inLen := rfl
@[simp] theorem State.respond_inFtype (s : State) (r : Response) : (s.respond r).inFtype = s.inFtype := rfl
@[simp] theorem State.respond_inBssidLo (s : State) (r : Response) : (s.respond r).inBssidLo = s.inBssidLo := rfl
@[simp] theorem State.respond_inBssidHi (s : State) (r : Response) : (s.respond r).inBssidHi = s.inBssidHi := rfl
@[simp] theorem State.respond_entrySel (s : State) (r : Response) : (s.respond r).entrySel = s.entrySel := rfl
@[simp] theorem State.respond_hdr0 (s : State) (r : Response) : (s.respond r).hdr0 = s.hdr0 := rfl
@[simp] theorem State.respond_hdr1 (s : State) (r : Response) : (s.respond r).hdr1 = s.hdr1 := rfl
@[simp] theorem State.respond_phyTxTime (s : State) (r : Response) : (s.respond r).phyTxTime = s.phyTxTime := rfl
@[simp] theorem State.respond_targetTxTime (s : State) (r : Response) : (s.respond r).targetTxTime = s.targetTxTime := rfl
@[simp] theorem State.respond_tlvCount (s : State) (r : Response) : (s.respond r).tlvCount = s.tlvCount := rfl
@[simp] theorem State.respond_ibuf (s : State) (r : Response) : (s.respond r).ibuf = s.ibuf := rfl
@[simp] theorem State.respond_pbuf (s : State) (r : Response) : (s.respond r).pbuf = s.pbuf := rfl
@[simp] theorem State.respond_tlvt (s : State) (r : Response) : (s.respond r).tlvt = s.tlvt := rfl
@[simp] theorem State.respond_cursor (s : State) (r : Response) : (s.respond r).cursor = s.cursor := rfl
@[simp] theorem State.respond_phase (s : State) (r : Response) : (s.respond r).phase = s.phase := rfl
@[simp] theorem State.respond_tidx (s : State) (r : Response) : (s.respond r).tidx = s.tidx := rfl
@[simp] theorem State.respond_didx (s : State) (r : Response) : (s.respond r).didx = s.didx := rfl
@[simp] theorem State.respond_pwr (s : State) (r : Response) : (s.respond r).pwr = s.pwr := rfl
@[simp] theorem State.respond_epoch (s : State) (r : Response) : (s.respond r).epoch = s.epoch := rfl
@[simp] theorem State.respond_reads (s : State) (r : Response) : (s.respond r).reads = s.reads := rfl
@[simp] theorem State.respond_schedule (s : State) (r : Response) : (s.respond r).schedule = s.schedule := rfl
@[simp] theorem State.respond_responses (s : State) (r : Response) : (s.respond r).responses = r :: s.responses := rfl

/-! `State.popped` -/

@[simp] theorem State.popped_params (s : State) : (s.popped).params = s.params := rfl
@[simp] theorem State.popped_ie (s : State) : (s.popped).ie = s.ie := rfl
@[simp] theorem State.popped_pfe (s : State) : (s.popped).pfe = s.pfe := rfl
@[simp] theorem State.popped_irqPend (s : State) : (s.popped).irqPend = s.irqPend := rfl
@[simp] theorem State.popped_wdrop (s : State) : (s.popped).wdrop = s.wdrop := rfl
@[simp] theorem State.popped_perr (s : State) : (s.popped).perr = s.perr := rfl
@[simp] theorem State.popped_errCode (s : State) : (s.popped).errCode = s.errCode := rfl
@[simp] theorem State.popped_errTag (s : State) : (s.popped).errTag = s.errTag := rfl
@[simp] theorem State.popped_inLen (s : State) : (s.popped).inLen = s.inLen := rfl
@[simp] theorem State.popped_inFtype (s : State) : (s.popped).inFtype = s.inFtype := rfl
@[simp] theorem State.popped_inBssidLo (s : State) : (s.popped).inBssidLo = s.inBssidLo := rfl
@[simp] theorem State.popped_inBssidHi (s : State) : (s.popped).inBssidHi = s.inBssidHi := rfl
@[simp] theorem State.popped_entrySel (s : State) : (s.popped).entrySel = s.entrySel := rfl
@[simp] theorem State.popped_hdr0 (s : State) : (s.popped).hdr0 = s.hdr0 := rfl
@[simp] theorem State.popped_hdr1 (s : State) : (s.popped).hdr1 = s.hdr1 := rfl
@[simp] theorem State.popped_phyTxTime (s : State) : (s.popped).phyTxTime = s.phyTxTime := rfl
@[simp] theorem State.popped_targetTxTime (s : State) : (s.popped).targetTxTime = s.targetTxTime := rfl
@[simp] theorem State.popped_tlvCount (s : State) : (s.popped).tlvCount = s.tlvCount := rfl
@[simp] theorem State.popped_ibuf (s : State) : (s.popped).ibuf = s.ibuf := rfl
@[simp] theorem State.popped_pbuf (s : State) : (s.popped).pbuf = s.pbuf := rfl
@[simp] theorem State.popped_tlvt (s : State) : (s.popped).tlvt = s.tlvt := rfl
@[simp] theorem State.popped_cursor (s : State) : (s.popped).cursor = s.cursor := rfl
@[simp] theorem State.popped_phase (s : State) : (s.popped).phase = s.phase := rfl
@[simp] theorem State.popped_tidx (s : State) : (s.popped).tidx = s.tidx := rfl
@[simp] theorem State.popped_didx (s : State) : (s.popped).didx = s.didx := rfl
@[simp] theorem State.popped_pwr (s : State) : (s.popped).pwr = s.pwr := rfl
@[simp] theorem State.popped_epoch (s : State) : (s.popped).epoch = s.epoch := rfl
@[simp] theorem State.popped_reads (s : State) : (s.popped).reads = s.reads := rfl
@[simp] theorem State.popped_schedule (s : State) : (s.popped).schedule = s.schedule.tail := rfl
@[simp] theorem State.popped_responses (s : State) : (s.popped).responses = s.responses := rfl

/-! `State.rst` -/

@[simp] theorem State.rst_params (s : State) : s.rst.params = s.params := rfl
@[simp] theorem State.rst_ie (s : State) : s.rst.ie = State.reset.ie := rfl
@[simp] theorem State.rst_pfe (s : State) : s.rst.pfe = State.reset.pfe := rfl
@[simp] theorem State.rst_irqPend (s : State) : s.rst.irqPend = State.reset.irqPend := rfl
@[simp] theorem State.rst_wdrop (s : State) : s.rst.wdrop = State.reset.wdrop := rfl
@[simp] theorem State.rst_perr (s : State) : s.rst.perr = State.reset.perr := rfl
@[simp] theorem State.rst_errCode (s : State) : s.rst.errCode = State.reset.errCode := rfl
@[simp] theorem State.rst_errTag (s : State) : s.rst.errTag = State.reset.errTag := rfl
@[simp] theorem State.rst_inLen (s : State) : s.rst.inLen = State.reset.inLen := rfl
@[simp] theorem State.rst_inFtype (s : State) : s.rst.inFtype = State.reset.inFtype := rfl
@[simp] theorem State.rst_inBssidLo (s : State) : s.rst.inBssidLo = State.reset.inBssidLo := rfl
@[simp] theorem State.rst_inBssidHi (s : State) : s.rst.inBssidHi = State.reset.inBssidHi := rfl
@[simp] theorem State.rst_entrySel (s : State) : s.rst.entrySel = State.reset.entrySel := rfl
@[simp] theorem State.rst_hdr0 (s : State) : s.rst.hdr0 = State.reset.hdr0 := rfl
@[simp] theorem State.rst_hdr1 (s : State) : s.rst.hdr1 = State.reset.hdr1 := rfl
@[simp] theorem State.rst_phyTxTime (s : State) : s.rst.phyTxTime = State.reset.phyTxTime := rfl
@[simp] theorem State.rst_targetTxTime (s : State) : s.rst.targetTxTime = State.reset.targetTxTime := rfl
@[simp] theorem State.rst_tlvCount (s : State) : s.rst.tlvCount = State.reset.tlvCount := rfl
@[simp] theorem State.rst_ibuf (s : State) : s.rst.ibuf = State.reset.ibuf := rfl
@[simp] theorem State.rst_pbuf (s : State) : s.rst.pbuf = State.reset.pbuf := rfl
@[simp] theorem State.rst_tlvt (s : State) : s.rst.tlvt = State.reset.tlvt := rfl
@[simp] theorem State.rst_cursor (s : State) : s.rst.cursor = State.reset.cursor := rfl
@[simp] theorem State.rst_phase (s : State) : s.rst.phase = State.reset.phase := rfl
@[simp] theorem State.rst_tidx (s : State) : s.rst.tidx = State.reset.tidx := rfl
@[simp] theorem State.rst_didx (s : State) : s.rst.didx = State.reset.didx := rfl
@[simp] theorem State.rst_pwr (s : State) : s.rst.pwr = State.reset.pwr := rfl
@[simp] theorem State.rst_epoch (s : State) : s.rst.epoch = s.epoch + 1 := rfl
@[simp] theorem State.rst_reads (s : State) : s.rst.reads = s.reads := rfl
@[simp] theorem State.rst_schedule (s : State) : s.rst.schedule = s.schedule := rfl
@[simp] theorem State.rst_responses (s : State) : s.rst.responses = s.responses := rfl

/-! Derived reads under the updates -/

@[simp] theorem State.reset_phase : State.reset.phase = .idle := rfl
@[simp] theorem State.reset_params : State.reset.params = Params.default := rfl

@[simp] theorem State.raise_ibufByte (s : State) (e : ErrCode) (tag : Byte) (i : Nat) : (s.raise e tag).ibufByte i = s.ibufByte i := rfl
@[simp] theorem State.raise_pbufByte (s : State) (e : ErrCode) (tag : Byte) (i : Nat) : (s.raise e tag).pbufByte i = s.pbufByte i := rfl
@[simp] theorem State.raise_entry (s : State) (e : ErrCode) (tag : Byte) (i : Nat) : (s.raise e tag).entry i = s.entry i := rfl
@[simp] theorem State.start_ibufByte (s : State) (i : Nat) : (s.start).ibufByte i = s.ibufByte i := rfl
@[simp] theorem State.start_pbufByte (s : State) (i : Nat) : (s.start).pbufByte i = s.pbufByte i := rfl
@[simp] theorem State.start_entry (s : State) (i : Nat) : (s.start).entry i = s.entry i := rfl
@[simp] theorem State.finish_ibufByte (s : State) (i : Nat) : (s.finish).ibufByte i = s.ibufByte i := rfl
@[simp] theorem State.finish_pbufByte (s : State) (i : Nat) : (s.finish).pbufByte i = s.pbufByte i := rfl
@[simp] theorem State.finish_entry (s : State) (i : Nat) : (s.finish).entry i = s.entry i := rfl
@[simp] theorem State.setKind_ibufByte (s : State) (k : Kind) (i : Nat) : (s.setKind k).ibufByte i = s.ibufByte i := rfl
@[simp] theorem State.setKind_pbufByte (s : State) (k : Kind) (i : Nat) : (s.setKind k).pbufByte i = s.pbufByte i := rfl
@[simp] theorem State.respond_ibufByte (s : State) (r : Response) (i : Nat) : (s.respond r).ibufByte i = s.ibufByte i := rfl
@[simp] theorem State.respond_pbufByte (s : State) (r : Response) (i : Nat) : (s.respond r).pbufByte i = s.pbufByte i := rfl
@[simp] theorem State.respond_entry (s : State) (r : Response) (i : Nat) : (s.respond r).entry i = s.entry i := rfl
@[simp] theorem State.popped_ibufByte (s : State) (i : Nat) : (s.popped).ibufByte i = s.ibufByte i := rfl
@[simp] theorem State.popped_pbufByte (s : State) (i : Nat) : (s.popped).pbufByte i = s.pbufByte i := rfl
@[simp] theorem State.popped_entry (s : State) (i : Nat) : (s.popped).entry i = s.entry i := rfl

end Sys2Proof.Machine
end

