-- ==== Sys2Proof/Laws/Ops.lean ====
section
/-! SUPPORT. What each shared operation can do, said once: reads of buffers and table after a write, the
bounds-checked reads, the two steps of a TLV, and the raise. -/

namespace Sys2Proof.Machine

/-! Reads after writes -/

/-- An IBUF byte depends on IBUF and the epoch only. -/
theorem State.ibufByte_congr {s t : State} (h : t.ibuf = s.ibuf) (he : t.epoch = s.epoch) (a : Nat) :
    t.ibufByte a = s.ibufByte a := by
  simp [State.ibufByte, h, he]

/-- A PBUF byte depends on PBUF and the epoch only. -/
theorem State.pbufByte_congr {s t : State} (h : t.pbuf = s.pbuf) (he : t.epoch = s.epoch) (a : Nat) :
    t.pbufByte a = s.pbufByte a := by
  simp [State.pbufByte, h, he]

/-- A table entry depends on the table and the epoch only. -/
theorem State.entry_congr {s t : State} (h : t.tlvt = s.tlvt) (he : t.epoch = s.epoch) (i : Nat) :
    t.entry i = s.entry i := by
  simp [State.entry, h, he]

/-- A payload copy depends on PBUF and the epoch only. -/
theorem State.payloadOf_congr {s t : State} (h : ∀ a, t.pbufByte a = s.pbufByte a) (e : TlvEntry) :
    t.payloadOf e = s.payloadOf e := by
  simp [State.payloadOf, h]

@[simp] theorem State.payloadOf_length (s : State) (e : TlvEntry) :
    (s.payloadOf e).length = e.len.toNat := by simp [State.payloadOf]

/-- A table read after a table write. -/
theorem State.entry_set {s t : State} {i : Nat} {x : TlvEntry} (h : t.tlvt = Store.set s.tlvt i x)
    (he : t.epoch = s.epoch) (j : Nat) : t.entry j = if j = i then x else s.entry j := by
  by_cases hj : j = i <;> simp [State.entry, h, he, hj]

/-- A PBUF read after a payload copy: the copied byte inside the copy and inside PBUF, the old one
elsewhere. -/
theorem State.pbufByte_write {s t : State} {off : Nat} {bs : List Byte}
    (h : t.pbuf = Memory.writeBytes s.params.maxFrameLen s.pbuf off bs) (he : t.epoch = s.epoch) (a : Nat) :
    t.pbufByte a =
      if off ≤ a ∧ a < off + bs.length ∧ a < s.params.maxFrameLen then bs.getD (a - off) 0
      else s.pbufByte a := by
  unfold State.pbufByte
  rw [h, he, Memory.get?_writeBytes]
  split
  · rename_i hc
    have : a - off < bs.length := by omega
    simp [List.getD, List.getElem?_eq_getElem this]
  · rfl

/-- An IBUF read after a host write: the written byte inside the range and inside IBUF, the old one
elsewhere. -/
theorem State.ibufByte_write {s t : State} {cap off : Nat} {bs : List Byte}
    (h : t.ibuf = Memory.writeBytes cap s.ibuf off bs) (he : t.epoch = s.epoch) (a : Nat) :
    t.ibufByte a =
      if off ≤ a ∧ a < off + bs.length ∧ a < cap then bs.getD (a - off) 0
      else s.ibufByte a := by
  unfold State.ibufByte
  rw [h, he, Memory.get?_writeBytes]
  split
  · rename_i hc
    have : a - off < bs.length := by omega
    simp [List.getD, List.getElem?_eq_getElem this]
  · rfl

/-! Bounds-checked reads -/

/-- `MemBytes` inside the payload answers the bytes. -/
theorem State.memBytes_ok {s : State} {addr n : Nat} (h : addr + n ≤ s.inLen.toNat)
    (hm : s.inLen.toNat ≤ s.params.maxFrameLen) :
    s.memBytes addr n = .ok ((List.range n).map (fun k => s.ibufByte (addr + k))) := by
  unfold State.memBytes
  rw [if_neg (by omega)]

/-- `MemBytes` fails in one way only. -/
theorem State.memBytes_error {s : State} {addr n : Nat} {e : ErrCode} (h : s.memBytes addr n = .error e) :
    e = .outOfBounds := by
  unfold State.memBytes at h
  split at h
  · exact (Except.error.inj h).symm
  · cases h

/-- `MemBytes` succeeds inside the payload and inside the buffer only. -/
theorem State.memBytes_bounds {s : State} {addr n : Nat} {bs : List Byte} (h : s.memBytes addr n = .ok bs) :
    addr + n ≤ s.inLen.toNat ∧ s.inLen.toNat ≤ s.params.maxFrameLen ∧
      bs = (List.range n).map (fun k => s.ibufByte (addr + k)) := by
  unfold State.memBytes at h
  split at h
  · cases h
  · exact ⟨by omega, by omega, (Except.ok.inj h).symm⟩

/-! The steps of a TLV -/

theorem tlvStep_seg {s : State} (h : s.phase = .seg) (tag : Byte) (len : Half) (value : List Byte) (k : Kind) :
    tlvStep tag len value k s = .next (s.acceptTlv tag len value) := by
  simp [tlvStep, h]

theorem tlvStep_dispatch {s : State} (h : s.phase = .dispatch) (tag : Byte) (len : Half) (value : List Byte)
    (k : Kind) : tlvStep tag len value k s = .next (s.dispatchTlv tag k) := by
  simp [tlvStep, h]

/-- Accepting a TLV with the table full is the overflow raise. -/
theorem State.acceptTlv_full {s : State} (h : s.tidx.toNat = s.params.maxTlvs) (tag : Byte) (len : Half)
    (value : List Byte) : s.acceptTlv tag len value = s.raise .tlvTableOverflow 0 := by
  simp [State.acceptTlv, h]

/-- Accepting a TLV with room in the table. -/
theorem State.acceptTlv_room {s : State} (h : s.tidx.toNat ≠ s.params.maxTlvs) (tag : Byte) (len : Half)
    (value : List Byte) :
    s.acceptTlv tag len value =
      { s with
        pbuf := Memory.writeBytes s.params.maxFrameLen s.pbuf s.pwr.toNat value
        tlvt := Store.set s.tlvt s.tidx.toNat { tag := tag, len := len, poff := s.pwr, kind := .none }
        tidx := s.tidx + 1
        pwr := s.pwr + len
        cursor := s.cursor + 3 + len } := by
  simp [State.acceptTlv, h]

/-- Dispatching an entry that is not short. -/
theorem State.dispatchTlv_full {s : State} {k : Kind} (h : k ≠ .truncatedPayload) (tag : Byte) :
    s.dispatchTlv tag k = { s.setKind k with didx := s.didx + 1 } := by
  simp [State.dispatchTlv, h]

/-- Dispatching a short entry with PFE = 0. -/
theorem State.dispatchTlv_short {s : State} (h : s.pfe = false) (tag : Byte) :
    s.dispatchTlv tag .truncatedPayload =
      { s.setKind .truncatedPayload with perr := true, didx := s.didx + 1 } := by
  simp [State.dispatchTlv, h]

/-- Dispatching a short entry with PFE = 1. -/
theorem State.dispatchTlv_raise {s : State} (h : s.pfe = true) (tag : Byte) :
    s.dispatchTlv tag .truncatedPayload = (s.setKind .truncatedPayload).raise .truncatedTlvPayload tag := by
  simp [State.dispatchTlv, h]

/-- A table read after `setKind`. -/
theorem State.entry_setKind (s : State) (k : Kind) (j : Nat) :
    (s.setKind k).entry j = if j = s.didx.toNat then { s.entry s.didx.toNat with kind := k } else s.entry j :=
  State.entry_set (s := s) (t := s.setKind k) rfl rfl j

/-- What a kind by length can be. -/
theorem kindByLength_cases (p : Params) (f : Format) (len : Half) :
    (minLen p f ≤ len.toNat ∧ kindByLength p f len = f.kind) ∨
      (len.toNat < minLen p f ∧ kindByLength p f len = .truncatedPayload) := by
  unfold kindByLength
  split
  · exact .inl ⟨‹_›, rfl⟩
  · exact .inr ⟨by omega, rfl⟩

/-- The kind of a payload that reaches its minimum is no failure. -/
theorem Format.kind_ne_truncated (f : Format) : f.kind ≠ .truncatedPayload := by cases f <;> decide

/-- Only a recognized tag can be short. -/
theorem payloadKind_truncated {p : Params} {tag : Byte} {len : Half}
    (h : payloadKind p tag len = .truncatedPayload) : tag = 4 ∨ tag = 5 ∨ tag = 18 ∨ tag = 24 := by
  unfold payloadKind at h
  split at h
  · exact .inl ‹_›
  split at h
  · exact .inr (.inl ‹_›)
  split at h
  · exact .inr (.inr (.inl ‹_›))
  split at h
  · exact .inr (.inr (.inr ‹_›))
  · cases h

/-- A dispatched entry never has KIND NONE. -/
theorem payloadKind_ne_none (p : Params) (tag : Byte) (len : Half) : payloadKind p tag len ≠ .none := by
  unfold payloadKind kindByLength
  repeat' split
  all_goals simp [Format.kind]

end Sys2Proof.Machine
end

