-- ==== Sys2Proof/Laws/Exec.lean ====
section
/-! SUPPORT. What executing any TLV is, in terms of its tag, length and value, and what a step can do. -/

namespace Sys2Proof.Machine

/-- A tag that is not 4, 5, 18 or 24 has no decoder (R241). -/
theorem payloadKind_other {tag : Byte} (h : tag ≠ 4 ∧ tag ≠ 5 ∧ tag ≠ 18 ∧ tag ≠ 24) (p : Params) (len : Half) :
    payloadKind p tag len = .unrecognized := by
  rw [payloadKind, if_neg h.1, if_neg h.2.1, if_neg h.2.2.1, if_neg h.2.2.2]

/-- No tag of a masked row is recognized. -/
theorem unassigned_not_recognized :
    (∀ l : BitVec 1, let t : Byte := 13#7 ++ l; t ≠ 4 ∧ t ≠ 5 ∧ t ≠ 18 ∧ t ≠ 24) ∧
    (∀ l : BitVec 2, let t : Byte := 7#6 ++ l; t ≠ 4 ∧ t ≠ 5 ∧ t ≠ 18 ∧ t ≠ 24) ∧
    (∀ l : BitVec 5, let t : Byte := 1#3 ++ l; t ≠ 4 ∧ t ≠ 5 ∧ t ≠ 18 ∧ t ≠ 24) ∧
    (∀ l : BitVec 6, let t : Byte := 1#2 ++ l; t ≠ 4 ∧ t ≠ 5 ∧ t ≠ 18 ∧ t ≠ 24) ∧
    (∀ l : BitVec 7, let t : Byte := 1#1 ++ l; t ≠ 4 ∧ t ≠ 5 ∧ t ≠ 18 ∧ t ≠ 24) := by
  decide +kernel

/-- The meaning of every instruction is the TLV step of its tag, length and value, with the KIND that
PayloadKind gives. -/
theorem exec_eq_tlvStep (i : Instr) (s : State) :
    exec i s = tlvStep i.tag i.len i.value (payloadKind s.params i.tag i.len) s := by
  obtain ⟨u1, u2, u5, u6, u7⟩ := unassigned_not_recognized
  cases i
  case tagUnassigned1A low len value => exact congrArg (tlvStep _ len value · s) (payloadKind_other (u1 low) _ _).symm
  case tagUnassigned1C low len value => exact congrArg (tlvStep _ len value · s) (payloadKind_other (u2 low) _ _).symm
  case tagUnassigned20 low len value => exact congrArg (tlvStep _ len value · s) (payloadKind_other (u5 low) _ _).symm
  case tagUnassigned40 low len value => exact congrArg (tlvStep _ len value · s) (payloadKind_other (u6 low) _ _).symm
  case tagUnassigned80 low len value => exact congrArg (tlvStep _ len value · s) (payloadKind_other (u7 low) _ _).symm
  all_goals rfl

/-- Executing a TLV in SEG. -/
theorem exec_seg {s : State} (h : s.phase = .seg) (i : Instr) :
    exec i s = .next (s.acceptTlv i.tag i.len i.value) := by
  rw [exec_eq_tlvStep, tlvStep_seg h]

/-- Executing a TLV in DISPATCH. -/
theorem exec_dispatch {s : State} (h : s.phase = .dispatch) (i : Instr) :
    exec i s = .next (s.dispatchTlv i.tag (payloadKind s.params i.tag i.len)) := by
  rw [exec_eq_tlvStep, tlvStep_dispatch h]

/-! The parser's turn, phase by phase -/

theorem parserStep_classify {s : State} (h : s.phase = .classify) : parserStep s = .next (classifyStep s) := by
  simp [parserStep, h]

theorem parserStep_header {s : State} (h : s.phase = .header) : parserStep s = .next (headerStep s) := by
  simp [parserStep, h]

theorem parserStep_seg {s : State} (h : s.phase = .seg) : parserStep s = segStep s := by
  simp [parserStep, h]

theorem parserStep_dispatch {s : State} (h : s.phase = .dispatch) : parserStep s = dispatchStep s := by
  simp [parserStep, h]

theorem parserStep_quiescent {s : State} (h : s.phase.busy = false) : parserStep s = .next s := by
  unfold parserStep
  cases hp : s.phase <;> simp_all [Phase.busy]

/-- A SEG step before the end of the stream, when a TLV is fetched. -/
theorem segStep_fetched {s : State} {i : Instr} (hc : s.cursor ≠ s.inLen) (h : fetchTlv s = .ok i) :
    segStep s = exec i s := by
  simp [segStep, hc, h]

/-- A SEG step before the end of the stream, when the fetch fails. -/
theorem segStep_failed {s : State} {e : ErrCode} (hc : s.cursor ≠ s.inLen) (h : fetchTlv s = .error e) :
    segStep s = .next (s.raise e 0) := by
  simp [segStep, hc, h]

/-- What the parser's turn does in each phase. -/
theorem parserStep_cases {s t : State} (h : parserStep s = .next t) :
    (s.phase.busy = false ∧ t = s) ∨
    (s.phase = .classify ∧ t = classifyStep s) ∨
    (s.phase = .header ∧ t = headerStep s) ∨
    (s.phase = .seg ∧ s.cursor = s.inLen ∧ t = { s with phase := .dispatch }) ∨
    (s.phase = .seg ∧ s.cursor ≠ s.inLen ∧ ∃ e, fetchTlv s = .error e ∧ t = s.raise e 0) ∨
    (s.phase = .seg ∧ s.cursor ≠ s.inLen ∧ ∃ i, fetchTlv s = .ok i ∧ t = s.acceptTlv i.tag i.len i.value) ∨
    (s.phase = .dispatch ∧ s.didx = s.tidx ∧ t = s.finish) ∨
    (s.phase = .dispatch ∧ s.didx ≠ s.tidx ∧
      t = s.dispatchTlv (fetchEntry s).tag (payloadKind s.params (fetchEntry s).tag (fetchEntry s).len)) := by
  unfold parserStep at h
  cases hp : s.phase <;> rw [hp] at h <;> simp only [Host.Outcome.next.injEq] at h
  case seg =>
    unfold segStep at h
    split at h
    · rename_i hc
      exact .inr (.inr (.inr (.inl ⟨rfl, hc, (Host.Outcome.next.inj h).symm⟩)))
    · rename_i hc
      split at h
      · rename_i e he
        exact .inr (.inr (.inr (.inr (.inl ⟨rfl, hc, e, he, (Host.Outcome.next.inj h).symm⟩))))
      · rename_i i hi
        rw [exec_seg hp] at h
        exact .inr (.inr (.inr (.inr (.inr (.inl ⟨rfl, hc, i, hi, (Host.Outcome.next.inj h).symm⟩)))))
  case dispatch =>
    unfold dispatchStep at h
    split at h
    · rename_i hd
      exact .inr (.inr (.inr (.inr (.inr (.inr (.inl ⟨rfl, hd, (Host.Outcome.next.inj h).symm⟩))))))
    · rename_i hd
      rw [exec_dispatch hp] at h
      exact .inr (.inr (.inr (.inr (.inr (.inr (.inr ⟨rfl, hd, (Host.Outcome.next.inj h).symm⟩))))))
  all_goals simp [Phase.busy, h]

/-- What a step can be: the parser's turn, a host transaction, or `rst`. -/
theorem step_cases {s t : State} (h : step s = .next t) :
    (s.parserTurn ∧ parserStep s.popped = .next t) ∨
    (∃ op rest, s.schedule = .host op :: rest ∧ t = s.popped.hostOp op) ∨
    (∃ rest, s.schedule = .rst :: rest ∧ t = s.popped.rst) := by
  unfold step at h
  split at h
  · exact .inl ⟨.inl ‹_›, h⟩
  · rename_i hs
    exact .inl ⟨.inr (by simp [hs]), h⟩
  · exact .inr (.inl ⟨_, _, ‹_›, (Host.Outcome.next.inj h).symm⟩)
  · exact .inr (.inr ⟨_, ‹_›, (Host.Outcome.next.inj h).symm⟩)

/-- The step in a parser turn. -/
theorem step_parser {s : State} (h : s.parserTurn) : step s = parserStep s.popped := by
  unfold step
  rcases h with h | h
  · rw [h]
  · cases hs : s.schedule with
    | nil => rfl
    | cons x xs =>
      rw [hs] at h
      cases (Option.some.inj h)
      rfl

/-- The step of a host transaction. -/
theorem step_host {s : State} {op : HostOp} {rest : List Input} (h : s.schedule = .host op :: rest) :
    step s = .next (s.popped.hostOp op) := by
  unfold step
  rw [h]

/-- A run of one step more, for any machine. -/
theorem run_of_next {M : Host.Core} {s t : M.State} (h : M.step s = .next t) (k : Nat) :
    M.run (k + 1) s = M.run k t := by
  simp only [Host.Core.run, h]

/-- A run of one step more. -/
theorem run_succ {s t : State} (h : step s = .next t) (k : Nat) :
    Host.Core.run Sys2Proof.core (k + 1) s = Host.Core.run Sys2Proof.core k t :=
  run_of_next (M := Sys2Proof.core) h k

/-- A run in two parts. -/
theorem run_add {s t : State} {a : Nat} (h : Host.Core.run Sys2Proof.core a s = .next t) (b : Nat) :
    Host.Core.run Sys2Proof.core (a + b) s = Host.Core.run Sys2Proof.core b t := by
  induction a generalizing s with
  | zero =>
    have e : s = t := Host.Outcome.next.inj h
    rw [Nat.zero_add, e]
  | succ a ih =>
    obtain ⟨u, hu⟩ | ⟨r, hu⟩ | ⟨r, hu⟩ :
        (∃ u, step s = .next u) ∨ (∃ r, step s = .fault r) ∨ ∃ r, step s = .refused r := by
      cases step s with
      | next u => exact .inl ⟨u, rfl⟩
      | fault r => exact .inr (.inl ⟨r, rfl⟩)
      | refused r => exact .inr (.inr ⟨r, rfl⟩)
    · rw [run_succ hu] at h
      rw [show a + 1 + b = a + b + 1 by omega, run_succ hu]
      exact ih h
    · have e : Sys2Proof.core.step s = .fault r := hu
      simp only [Host.Core.run, e] at h
      cases h
    · have e : Sys2Proof.core.step s = .refused r := hu
      simp only [Host.Core.run, e] at h
      cases h

/-- The parser's turn always answers a next state (R142, R170). -/
theorem parserStep_next (s : State) : ∃ t, parserStep s = .next t := by
  cases hb : s.phase.busy
  · exact ⟨_, parserStep_quiescent hb⟩
  · cases hp : s.phase <;> rw [hp] at hb <;> try cases hb
    · exact ⟨_, parserStep_classify hp⟩
    · exact ⟨_, parserStep_header hp⟩
    · rw [parserStep_seg hp]
      by_cases hc : s.cursor = s.inLen
      · exact ⟨_, by rw [segStep, if_pos hc]⟩
      · cases hf : fetchTlv s with
        | error e => exact ⟨_, segStep_failed hc hf⟩
        | ok i => exact ⟨_, by rw [segStep_fetched hc hf, exec_seg hp]⟩
    · rw [parserStep_dispatch hp]
      by_cases hc : s.didx = s.tidx
      · exact ⟨_, by rw [dispatchStep, if_pos hc]⟩
      · exact ⟨_, by rw [dispatchStep, if_neg hc, exec_dispatch hp]⟩

/-- What a host transaction can do: BUS_ERR, a read, a dropped write, or a write while not BUSY. -/
theorem State.hostOp_cases (s : State) (op : HostOp) :
    (s.hostOp op = s.respond .busErr) ∨
    (∃ w a, op = .read w a ∧ s.hostOp op = { s.respond (.data (s.readData w a)) with reads := s.reads + 1 }) ∨
    (s.phase.busy = true ∧ s.hostOp op = { s with wdrop := true }.respond .ack) ∨
    (s.phase.busy = false ∧ ∃ w a d, op = .write w a d ∧ s.hostOp op = (s.writeData w a d).respond .ack) := by
  cases op with
  | read w a =>
    by_cases h : legalAccess w a
    · exact .inr (.inl ⟨w, a, rfl, by simp [State.hostOp, h]⟩)
    · exact .inl (by simp [State.hostOp, h])
  | write w a d =>
    by_cases h : legalAccess w a
    · by_cases hb : s.phase.busy
      · exact .inr (.inr (.inl ⟨hb, by simp [State.hostOp, h, hb]⟩))
      · exact .inr (.inr (.inr ⟨by simpa using hb, w, a, d, rfl, by simp [State.hostOp, h, hb]⟩))
    · exact .inl (by simp [State.hostOp, h])

end Sys2Proof.Machine
end

