-- ==== Sys2Proof/Laws/Bus.lean ====
section
/-! SUPPORT. Host transactions: address ranges and legality, what a legal read or write is, and what a
register address selects. -/

namespace Sys2Proof.Machine

/-! Byte lanes -/

/-- Two fields side by side, as a number. -/
theorem toNat_append_eq {m n : Nat} (hi : BitVec m) (lo : BitVec n) :
    (hi ++ lo).toNat = lo.toNat + 2 ^ n * hi.toNat := by
  have := lo.isLt
  rw [BitVec.toNat_append, Nat.shiftLeft_eq, Nat.mul_comm, ← Nat.two_pow_add_eq_or_of_lt this]
  omega

/-- Byte `k` of the bytes of a number (R85). -/
theorem bytesOf_getElem? (n v k : Nat) (hk : k < n) :
    (bytesOf n v)[k]? = some (BitVec.ofNat 8 (v / 2 ^ (8 * k))) := by
  induction n generalizing v k with
  | zero => omega
  | succ n ih =>
    cases k with
    | zero => simp [bytesOf]
    | succ k =>
      rw [bytesOf, List.getElem?_cons_succ, ih _ _ (by omega), Nat.div_div_eq_div_mul]
      congr 3
      rw [show 8 * (k + 1) = 8 + 8 * k by omega, pow_add]
      rfl

/-- A sequence of zero bytes is the number 0. -/
theorem le_eq_zero (n : Nat) (f : Nat → Byte) (hf : ∀ k < n, f k = 0) : le ((List.range n).map f) = 0 := by
  have e : (List.range n).map f = List.replicate n 0 := by
    rw [List.eq_replicate_iff]
    simpa using hf
  rw [e]
  clear e hf
  induction n with
  | zero => rfl
  | succ n ih => rw [List.replicate_succ, le_cons, ih]; rfl

/-- Byte `k` of a sequence of four bytes or fewer read as a word (R83, R85). -/
theorem le_byte (bs : List Byte) (k : Nat) (hk : k < bs.length) (h4 : bs.length ≤ 4) :
    (BitVec.ofNat 32 (le bs)).extractLsb' (8 * k) 8 = bs[k] := by
  have lane : ∀ (l : List Byte) (j : Nat) (hj : j < l.length), le l / 2 ^ (8 * j) % 256 = (l[j]).toNat := by
    intro l
    induction l with
    | nil => intro j hj; simp at hj
    | cons b l ih =>
      intro j hj
      have hb := b.isLt
      cases j with
      | zero => simp; omega
      | succ j =>
        have e := ih j (by simpa using hj)
        rw [le_cons, show 8 * (j + 1) = 8 + 8 * j by omega, pow_add, ← Nat.div_div_eq_div_mul,
          show (b.toNat + 256 * le l) / 2 ^ 8 = le l by omega, e]
        rfl
  have hlt := le_lt bs
  have h32 : 256 ^ bs.length ≤ 256 ^ 4 := Nat.pow_le_pow_right (by omega) h4
  apply BitVec.eq_of_toNat_eq
  rw [← lane bs k hk, BitVec.extractLsb'_toNat, BitVec.toNat_ofNat, Nat.shiftRight_eq_div_pow,
    Nat.mod_eq_of_lt (a := le bs) (by omega)]

/-- A payload copy outside the buffer writes nothing (R88). -/
theorem Memory.writeBytes_outside (cap : Nat) (m : Memory) (off : Nat) (bs : List Byte) (h : cap ≤ off) :
    Memory.writeBytes cap m off bs = m := by
  cases bs with
  | nil => rfl
  | cons b bs => rw [Memory.writeBytes, if_neg (by omega)]

/-! Address ranges and legality -/

theorem spaceOf_csr {a : BusAddr} (h : a.toNat < 0x10000) : spaceOf a = .csr := by simp [spaceOf, h]

theorem spaceOf_ibuf {a : BusAddr} (h : 0x10000 ≤ a.toNat) (h2 : a.toNat < 0x20000) : spaceOf a = .ibuf := by
  rw [spaceOf, if_neg (by omega), if_pos h2]

theorem spaceOf_pbuf {a : BusAddr} (h : 0x20000 ≤ a.toNat) (h2 : a.toNat < 0x30000) : spaceOf a = .pbuf := by
  rw [spaceOf, if_neg (by omega), if_neg (by omega), if_pos h2]

theorem spaceOf_reserved {a : BusAddr} (h : 0x30000 ≤ a.toNat) : spaceOf a = .reserved := by
  rw [spaceOf, if_neg (by omega), if_neg (by omega), if_neg (by omega)]

/-- An aligned 32-bit transaction is legal in every range (R87). -/
theorem legalAccess_word (a : BusAddr) (h4 : a.toNat % 4 = 0) : legalAccess 32 a = true := by
  unfold legalAccess wordAligned
  cases spaceOf a <;> simp [h4]

/-- The legal transactions of the two windows (R87). -/
theorem legalAccess_window {w : Nat} {a : BusAddr} (hs : spaceOf a = .ibuf ∨ spaceOf a = .pbuf)
    (h : w = 8 ∨ (w = 16 ∧ a.toNat % 2 = 0) ∨ (w = 32 ∧ a.toNat % 4 = 0)) : legalAccess w a = true := by
  unfold legalAccess wordAligned narrowAligned
  rcases hs with hs | hs <;> rw [hs] <;> rcases h with h | h | h <;> simp [h]

/-! Transactions as steps -/

theorem State.popped_cons {s : State} {x : Input} {later : List Input} (h : s.schedule = x :: later) :
    s.popped = { s with schedule := later } := by
  simp [State.popped, h]

/-- A legal write while not BUSY, as a step (R165). -/
theorem step_write {s : State} {w : Nat} {a : BusAddr} {d : Word} {later : List Input}
    (h : s.schedule = .host (.write w a d) :: later) (hb : s.phase.busy = false)
    (hl : legalAccess w a = true) :
    step s = .next (({ s with schedule := later }.writeData w a d).respond .ack) := by
  rw [step_host h, State.popped_cons h]
  simp [State.hostOp, hl, hb]

/-- A legal read, as a step (R91). -/
theorem step_read {s : State} {w : Nat} {a : BusAddr} {later : List Input}
    (h : s.schedule = .host (.read w a) :: later) (hl : legalAccess w a = true) :
    step s = .next
      { { s with schedule := later }.respond (.data (s.readData w a)) with reads := s.reads + 1 } := by
  rw [step_host h, State.popped_cons h]
  simp [State.hostOp, hl, State.respond]
  rfl

/-- Byte `k` of a legal read of the IBUF window (R85, R86). -/
theorem State.readData_ibuf_byte (s : State) {w k : Nat} {a : BusAddr} (hs : spaceOf a = .ibuf) (hw : w ≤ 32)
    (hk : k < w / 8) : (s.readData w a).extractLsb' (8 * k) 8 = s.ibufWindow (offsetOf a + k) := by
  rw [State.readData, hs]
  simp only [byteCount]
  rw [le_byte _ k (by simpa using hk) (by simp; omega)]
  simp

/-- Byte `k` of a legal read of the PBUF window (R85, R86). -/
theorem State.readData_pbuf_byte (s : State) {w k : Nat} {a : BusAddr} (hs : spaceOf a = .pbuf) (hw : w ≤ 32)
    (hk : k < w / 8) : (s.readData w a).extractLsb' (8 * k) 8 = s.pbufWindow (offsetOf a + k) k := by
  rw [State.readData, hs]
  simp only [byteCount]
  rw [le_byte _ k (by simpa using hk) (by simp; omega)]
  simp

/-- A window read holds no bit above its bytes. -/
theorem State.readData_window_lt (s : State) (w : Nat) {a : BusAddr}
    (hs : spaceOf a = .ibuf ∨ spaceOf a = .pbuf) : (s.readData w a).toNat < 256 ^ (w / 8) := by
  have lt : ∀ f : Nat → Byte, (BitVec.ofNat 32 (le ((List.range (w / 8)).map f))).toNat < 256 ^ (w / 8) := by
    intro f
    have h := le_lt ((List.range (w / 8)).map f)
    rw [List.length_map, List.length_range] at h
    exact Nat.lt_of_le_of_lt (Nat.mod_le _ _) h
  rw [State.readData]
  rcases hs with hs | hs <;> rw [hs] <;> exact lt _

/-! Registers -/

@[simp] theorem State.readCsr_id (s : State) : s.readCsr .id = 0x54535001 := rfl
@[simp] theorem State.readCsr_reserved (s : State) : s.readCsr .reserved = 0 := rfl
@[simp] theorem State.writeCsr_ctrl (s : State) (d : Word) : s.writeCsr d .ctrl = s.writeCtrl d := rfl
@[simp] theorem State.writeCsr_status (s : State) (d : Word) : s.writeCsr d .status = s.writeStatus d := rfl

/-- While not BUSY the host sees every result register. -/
theorem State.resultRead_quiescent {s : State} (h : s.phase.busy = false) (v : Word) : s.resultRead v = v := by
  simp [State.resultRead, h]

/-- The reserved offsets of the CSR space (R55). -/
theorem csrOf_reserved {n : Nat} (h : 0x40 ≤ n ∧ n < 0x100 ∨ 0x200 ≤ n) : csrOf n = .reserved := by
  have hn : ¬ (0x100 ≤ n ∧ n < 0x200 ∧ n % 4 = 0) := by omega
  have hl : ¬ n < 0x40 := by omega
  clear h
  unfold csrOf
  split <;> first
    | exact absurd hl (by decide)
    | rw [if_neg hn]

/-- The FIELD window (R54): FIELD[k] is at 0x100 + 4k. -/
theorem csrOf_field {k : Nat} (h : k < 64) : csrOf (0x100 + 4 * k) = .field k := by
  have hn : 0x100 ≤ 0x100 + 4 * k ∧ 0x100 + 4 * k < 0x200 ∧ (0x100 + 4 * k) % 4 = 0 := by omega
  have hk : (0x100 + 4 * k - 0x100) / 4 = k := by omega
  generalize hn' : 0x100 + 4 * k = n at hn hk
  have hl : ¬ n < 0x40 := by omega
  clear hn'
  unfold csrOf
  split <;> first
    | exact absurd hl (by decide)
    | rw [if_pos hn, hk]

/-- A write of a register that is not one of the seven writable ones does nothing (R55, R165). -/
theorem State.writeCsr_readOnly {n : Nat} (h : n ∉ [0x004, 0x008, 0x010, 0x014, 0x018, 0x01C, 0x034])
    (s : State) (d : Word) : s.writeCsr d (csrOf n) = s := by
  simp only [List.mem_cons, List.not_mem_nil, or_false, not_or] at h
  unfold csrOf
  split <;> first
    | rfl
    | (exfalso; omega)
    | skip
  split <;> rfl

/-- What a register write can do (R162 to R165): nothing, START, IE and PFE, the flags, or one input. -/
theorem State.writeCsr_cases (s : State) (d : Word) (c : Csr) :
    s.writeCsr d c = s ∨
    (d.getLsbD 0 = true ∧ s.writeCsr d c = { s with ie := d.getLsbD 1, pfe := d.getLsbD 2 }.start) ∨
    s.writeCsr d c = { s with ie := d.getLsbD 1, pfe := d.getLsbD 2 } ∨
    s.writeCsr d c = s.writeStatus d ∨
    (∃ v, s.writeCsr d c = { s with inLen := v }) ∨
    (∃ v, s.writeCsr d c = { s with inFtype := v }) ∨
    (∃ v, s.writeCsr d c = { s with inBssidLo := v }) ∨
    (∃ v, s.writeCsr d c = { s with inBssidHi := v }) ∨
    (∃ v, s.writeCsr d c = { s with entrySel := v }) := by
  cases c
  case ctrl =>
    rw [State.writeCsr_ctrl, State.writeCtrl]
    by_cases h : d.getLsbD 0 = true
    · exact .inr (.inl ⟨h, if_pos h⟩)
    · exact .inr (.inr (.inl (if_neg h)))
  case status => exact .inr (.inr (.inr (.inl rfl)))
  case inLen => exact .inr (.inr (.inr (.inr (.inl ⟨_, rfl⟩))))
  case inFtype => exact .inr (.inr (.inr (.inr (.inr (.inl ⟨_, rfl⟩)))))
  case inBssidLo => exact .inr (.inr (.inr (.inr (.inr (.inr (.inl ⟨_, rfl⟩))))))
  case inBssidHi => exact .inr (.inr (.inr (.inr (.inr (.inr (.inr (.inl ⟨_, rfl⟩)))))))
  case entrySel => exact .inr (.inr (.inr (.inr (.inr (.inr (.inr (.inr ⟨_, rfl⟩)))))))
  all_goals exact .inl rfl

/-- What a legal write while not BUSY can do: an IBUF write, or a register write (R86, R165). -/
theorem State.writeData_cases (s : State) (w : Nat) (a : BusAddr) (d : Word) :
    (∃ off bs, s.writeData w a d =
      { s with ibuf := Memory.writeBytes s.params.maxFrameLen s.ibuf off bs }) ∨
    (∃ c, s.writeData w a d = s.writeCsr d c) := by
  unfold State.writeData
  cases spaceOf a
  · exact .inr ⟨_, rfl⟩
  · exact .inl ⟨_, _, rfl⟩
  · exact .inr ⟨.id, rfl⟩
  · exact .inr ⟨.id, rfl⟩

/-- An aligned 32-bit read of the CSR space, as a step (R31 to R57). -/
theorem step_readCsr {s : State} {a : BusAddr} {later : List Input}
    (h : s.schedule = .host (.read 32 a) :: later) (h4 : a.toNat % 4 = 0) (hc : a.toNat < 0x10000) :
    ∃ t, step s = .next t ∧ t.responses = .data (s.readCsr (csrOf a.toNat)) :: s.responses := by
  rw [step_read h (legalAccess_word a h4)]
  refine ⟨_, rfl, ?_⟩
  have e : offsetOf a = a.toNat := Nat.mod_eq_of_lt hc
  show Response.data (s.readData 32 a) :: _ = _
  rw [State.readData, spaceOf_csr hc, e]

/-- No entry is shown outside DONE or at or above TLV_COUNT (R47, R48, R54). -/
theorem State.selected?_none {s : State} (h : s.phase ≠ .done ∨ s.tlvCount.toNat ≤ s.entrySel.toNat) :
    s.selected? = none := by
  refine if_neg fun hc => ?_
  rcases h with h | h
  · exact h hc.1
  · omega

/-- A read of FIELD[k] while not BUSY, as a step (R54). -/
theorem step_readField {s : State} {k : Nat} {later : List Input}
    (h : s.schedule = .host (.read 32 (BitVec.ofNat 18 (0x100 + 4 * k))) :: later) (hk : k < 64)
    (hb : s.phase.busy = false) :
    ∃ t, step s = .next t ∧
      t.responses = .data (match s.selected? with | some e => s.fieldOf e k | none => 0) :: s.responses := by
  have ha : (BitVec.ofNat 18 (0x100 + 4 * k)).toNat = 0x100 + 4 * k := by rw [BitVec.toNat_ofNat]; omega
  obtain ⟨t, ht, hr⟩ := step_readCsr h (by omega) (by omega)
  rw [ha, csrOf_field hk] at hr
  exact ⟨t, ht, hr.trans (congrArg (fun v => Response.data v :: s.responses) (State.resultRead_quiescent hb _))⟩

end Sys2Proof.Machine
end

