-- ==== Sys2Proof/Laws/Fetch.lean ====
section
/-! SUPPORT. What the fetch of a TLV in SEG answers, in terms of the bytes of the payload. -/

namespace Sys2Proof.Machine

/-- The tag length in the payload at a cursor (R218). -/
theorem State.bytesFrom_eq (s : State) {c n : Nat} (h : c + 3 ≤ n) :
    (List.range (n - c)).map (fun k => s.ibufByte (c + k)) =
      s.ibufByte c :: s.ibufByte (c + 1) :: s.ibufByte (c + 2) ::
        (List.range (n - c - 3)).map (fun k => s.ibufByte (c + 3 + k)) := by
  have e : n - c = (n - c - 3) + 1 + 1 + 1 := by omega
  rw [e]
  simp only [List.range_succ_eq_map, List.map_cons, List.map_map]
  have e2 : n - c - 3 + 1 + 1 + 1 - 3 = n - c - 3 := by omega
  rw [e2]
  refine congrArg₂ _ rfl (congrArg₂ _ rfl (congrArg₂ _ rfl (List.map_congr_left fun k _ => ?_)))
  exact congrArg s.ibufByte (by simp; omega)

/-- Decoding the bytes from a cursor to the end of the payload, when a tag header is there. -/
theorem State.decode_bytesFrom (s : State) {c n : Nat} (h : c + 3 ≤ n) {L : Half}
    (hL : le16 (s.ibufByte (c + 1)) (s.ibufByte (c + 2)) = L) :
    decode ((List.range (n - c)).map (fun k => s.ibufByte (c + k))) =
      if c + 3 + L.toNat ≤ n then
        .ok (instrOf (s.ibufByte c) L ((List.range L.toNat).map (fun k => s.ibufByte (c + 3 + k))),
          ((List.range (n - c - 3)).map (fun k => s.ibufByte (c + 3 + k))).drop L.toNat)
      else .error .truncatedValue := by
  rw [s.bytesFrom_eq h]
  simp only [decode, hL, List.length_map, List.length_range]
  by_cases hl : c + 3 + L.toNat ≤ n
  · rw [if_pos (by omega), if_pos hl, ← List.map_take, List.take_range, Nat.min_eq_left (by omega)]
  · rw [if_neg (by omega), if_neg hl]

/-- Everything a fetch in SEG can answer (R217, R218): with `L` the tag length at the cursor. -/
theorem fetchTlv_cases (s : State) {L : Half}
    (hL : le16 (s.ibufByte (s.cursor.toNat + 1)) (s.ibufByte (s.cursor.toNat + 2)) = L) :
    (s.inLen.toNat < s.cursor.toNat + 3 ∧ fetchTlv s = .error .truncatedTlv) ∨
    (s.cursor.toNat + 3 ≤ s.inLen.toNat ∧ s.params.maxFrameLen < s.inLen.toNat ∧
      fetchTlv s = .error .outOfBounds) ∨
    (s.cursor.toNat + 3 ≤ s.inLen.toNat ∧ s.inLen.toNat ≤ s.params.maxFrameLen ∧
      s.inLen.toNat < s.cursor.toNat + 3 + L.toNat ∧ fetchTlv s = .error .truncatedTlv) ∨
    (s.cursor.toNat + 3 + L.toNat ≤ s.inLen.toNat ∧ s.inLen.toNat ≤ s.params.maxFrameLen ∧
      fetchTlv s = .ok (instrOf (s.ibufByte s.cursor.toNat) L
        ((List.range L.toNat).map (fun k => s.ibufByte (s.cursor.toNat + 3 + k))))) := by
  by_cases h1 : s.inLen.toNat < s.cursor.toNat + 3
  · exact .inl ⟨h1, by rw [fetchTlv, if_pos h1]⟩
  by_cases h2 : s.params.maxFrameLen < s.inLen.toNat
  · exact .inr (.inl ⟨by omega, h2, by rw [fetchTlv, if_neg h1, State.memBytes, if_pos (by omega)]⟩)
  have hf : fetchTlv s = match decode ((List.range (s.inLen.toNat - s.cursor.toNat)).map
      (fun k => s.ibufByte (s.cursor.toNat + k))) with
    | .error _ => .error .truncatedTlv
    | .ok (i, _) => .ok i := by
    rw [fetchTlv, if_neg h1, State.memBytes_ok (by omega) (by omega)]
    all_goals rfl
  rw [s.decode_bytesFrom (by omega) hL] at hf
  by_cases h3 : s.cursor.toNat + 3 + L.toNat ≤ s.inLen.toNat
  · rw [if_pos h3] at hf
    exact .inr (.inr (.inr ⟨h3, by omega, hf⟩))
  · rw [if_neg h3] at hf
    exact .inr (.inr (.inl ⟨by omega, by omega, by omega, hf⟩))

end Sys2Proof.Machine
end

