-- ==== Sys2Proof/Laws/PerInstr.lean ====
section
/-! SUPPORT. Statements about every instruction, one lemma per constructor.

`InstrOfTag`: the tag byte of an instruction selects its own row of the opcode table, and the TLV built
from that tag, the length and the value is the instruction itself (R136, R137). -/

-- One compiler thread for each lemma of the table costs more memory than the lemmas are worth.
set_option Elab.async false

namespace Sys2Proof

theorem opcodeOf_ssthRequest : opcodeOf 0x00 = .ssthRequest := by decide +kernel
theorem opcodeOf_serviceRequest : opcodeOf 0x01 = .serviceRequest := by decide +kernel
theorem opcodeOf_serviceResponse : opcodeOf 0x02 = .serviceResponse := by decide +kernel
theorem opcodeOf_unknown3 : opcodeOf 0x03 = .unknown3 := by decide +kernel
theorem opcodeOf_syncParams : opcodeOf 0x04 = .syncParams := by decide +kernel
theorem opcodeOf_electionParams : opcodeOf 0x05 = .electionParams := by decide +kernel
theorem opcodeOf_serviceParameters : opcodeOf 0x06 = .serviceParameters := by decide +kernel
theorem opcodeOf_edrCapabilities : opcodeOf 0x07 = .edrCapabilities := by decide +kernel
theorem opcodeOf_edrOperation : opcodeOf 0x08 = .edrOperation := by decide +kernel
theorem opcodeOf_infra : opcodeOf 0x09 = .infra := by decide +kernel
theorem opcodeOf_invite : opcodeOf 0x0A = .invite := by decide +kernel
theorem opcodeOf_debugString : opcodeOf 0x0B = .debugString := by decide +kernel
theorem opcodeOf_datapathState : opcodeOf 0x0C = .datapathState := by decide +kernel
theorem opcodeOf_encapsulatedIp : opcodeOf 0x0D = .encapsulatedIp := by decide +kernel
theorem opcodeOf_datapathDebugPacketLive : opcodeOf 0x0E = .datapathDebugPacketLive := by decide +kernel
theorem opcodeOf_datapathDebugAfLive : opcodeOf 0x0F = .datapathDebugAfLive := by decide +kernel
theorem opcodeOf_arpa : opcodeOf 0x10 = .arpa := by decide +kernel
theorem opcodeOf_ieee80211Container : opcodeOf 0x11 = .ieee80211Container := by decide +kernel
theorem opcodeOf_channelSequence : opcodeOf 0x12 = .channelSequence := by decide +kernel
theorem opcodeOf_unknown19 : opcodeOf 0x13 = .unknown19 := by decide +kernel
theorem opcodeOf_syncTree : opcodeOf 0x14 = .syncTree := by decide +kernel
theorem opcodeOf_version : opcodeOf 0x15 = .version := by decide +kernel
theorem opcodeOf_bloomFilter : opcodeOf 0x16 = .bloomFilter := by decide +kernel
theorem opcodeOf_nanSync : opcodeOf 0x17 = .nanSync := by decide +kernel
theorem opcodeOf_electionParamsV2 : opcodeOf 0x18 = .electionParamsV2 := by decide +kernel
theorem opcodeOf_unassigned19 : opcodeOf 0x19 = .unassigned19 := by decide +kernel

/-- The tags of row TAG_UNASSIGNED_1A select that row, whatever the open bits. -/
theorem opcodeOf_unassigned1A : ∀ low : BitVec 1,
    opcodeOf (13#7 ++ low) = .unassigned1A := by decide +kernel

/-- The tags of row TAG_UNASSIGNED_1C select that row, whatever the open bits. -/
theorem opcodeOf_unassigned1C : ∀ low : BitVec 2,
    opcodeOf (7#6 ++ low) = .unassigned1C := by decide +kernel

/-- The tags of row TAG_UNASSIGNED_20 select that row, whatever the open bits. -/
theorem opcodeOf_unassigned20 : ∀ low : BitVec 5,
    opcodeOf (1#3 ++ low) = .unassigned20 := by decide +kernel

/-- The tags of row TAG_UNASSIGNED_40 select that row, whatever the open bits. -/
theorem opcodeOf_unassigned40 : ∀ low : BitVec 6,
    opcodeOf (1#2 ++ low) = .unassigned40 := by decide +kernel

/-- The tags of row TAG_UNASSIGNED_80 select that row, whatever the open bits. -/
theorem opcodeOf_unassigned80 : ∀ low : BitVec 7,
    opcodeOf (1#1 ++ low) = .unassigned80 := by decide +kernel

/-- The open tag bits of a masked row are the low bits of its tags. -/
theorem extract_low {m n : Nat} (hi : BitVec m) (low : BitVec n) : (hi ++ low).extractLsb' 0 n = low := by
  ext i h
  simp [BitVec.getLsbD_append, h]

namespace Laws.InstrOfTag

/-- The instruction is the one its tag, length and value denote. -/
def Statement (i : Instr) : Prop := instrOf i.tag i.len i.value = i

theorem tagSsthRequest (len : Half) (value : List Byte) : Statement (.tagSsthRequest len value) := by
  show instrOf 0x00 len value = _
  rw [instrOf, opcodeOf_ssthRequest]

theorem tagServiceRequest (len : Half) (value : List Byte) : Statement (.tagServiceRequest len value) := by
  show instrOf 0x01 len value = _
  rw [instrOf, opcodeOf_serviceRequest]

theorem tagServiceResponse (len : Half) (value : List Byte) : Statement (.tagServiceResponse len value) := by
  show instrOf 0x02 len value = _
  rw [instrOf, opcodeOf_serviceResponse]

theorem tagUnknown3 (len : Half) (value : List Byte) : Statement (.tagUnknown3 len value) := by
  show instrOf 0x03 len value = _
  rw [instrOf, opcodeOf_unknown3]

theorem tagSyncParams (len : Half) (value : List Byte) : Statement (.tagSyncParams len value) := by
  show instrOf 0x04 len value = _
  rw [instrOf, opcodeOf_syncParams]

theorem tagElectionParams (len : Half) (value : List Byte) : Statement (.tagElectionParams len value) := by
  show instrOf 0x05 len value = _
  rw [instrOf, opcodeOf_electionParams]

theorem tagServiceParameters (len : Half) (value : List Byte) : Statement (.tagServiceParameters len value) := by
  show instrOf 0x06 len value = _
  rw [instrOf, opcodeOf_serviceParameters]

theorem tagEdrCapabilities (len : Half) (value : List Byte) : Statement (.tagEdrCapabilities len value) := by
  show instrOf 0x07 len value = _
  rw [instrOf, opcodeOf_edrCapabilities]

theorem tagEdrOperation (len : Half) (value : List Byte) : Statement (.tagEdrOperation len value) := by
  show instrOf 0x08 len value = _
  rw [instrOf, opcodeOf_edrOperation]

theorem tagInfra (len : Half) (value : List Byte) : Statement (.tagInfra len value) := by
  show instrOf 0x09 len value = _
  rw [instrOf, opcodeOf_infra]

theorem tagInvite (len : Half) (value : List Byte) : Statement (.tagInvite len value) := by
  show instrOf 0x0A len value = _
  rw [instrOf, opcodeOf_invite]

theorem tagDebugString (len : Half) (value : List Byte) : Statement (.tagDebugString len value) := by
  show instrOf 0x0B len value = _
  rw [instrOf, opcodeOf_debugString]

theorem tagDatapathState (len : Half) (value : List Byte) : Statement (.tagDatapathState len value) := by
  show instrOf 0x0C len value = _
  rw [instrOf, opcodeOf_datapathState]

theorem tagEncapsulatedIp (len : Half) (value : List Byte) : Statement (.tagEncapsulatedIp len value) := by
  show instrOf 0x0D len value = _
  rw [instrOf, opcodeOf_encapsulatedIp]

theorem tagDatapathDebugPacketLive (len : Half) (value : List Byte) : Statement (.tagDatapathDebugPacketLive len value) := by
  show instrOf 0x0E len value = _
  rw [instrOf, opcodeOf_datapathDebugPacketLive]

theorem tagDatapathDebugAfLive (len : Half) (value : List Byte) : Statement (.tagDatapathDebugAfLive len value) := by
  show instrOf 0x0F len value = _
  rw [instrOf, opcodeOf_datapathDebugAfLive]

theorem tagArpa (len : Half) (value : List Byte) : Statement (.tagArpa len value) := by
  show instrOf 0x10 len value = _
  rw [instrOf, opcodeOf_arpa]

theorem tagIeee80211Container (len : Half) (value : List Byte) : Statement (.tagIeee80211Container len value) := by
  show instrOf 0x11 len value = _
  rw [instrOf, opcodeOf_ieee80211Container]

theorem tagChannelSequence (len : Half) (value : List Byte) : Statement (.tagChannelSequence len value) := by
  show instrOf 0x12 len value = _
  rw [instrOf, opcodeOf_channelSequence]

theorem tagUnknown19 (len : Half) (value : List Byte) : Statement (.tagUnknown19 len value) := by
  show instrOf 0x13 len value = _
  rw [instrOf, opcodeOf_unknown19]

theorem tagSyncTree (len : Half) (value : List Byte) : Statement (.tagSyncTree len value) := by
  show instrOf 0x14 len value = _
  rw [instrOf, opcodeOf_syncTree]

theorem tagVersion (len : Half) (value : List Byte) : Statement (.tagVersion len value) := by
  show instrOf 0x15 len value = _
  rw [instrOf, opcodeOf_version]

theorem tagBloomFilter (len : Half) (value : List Byte) : Statement (.tagBloomFilter len value) := by
  show instrOf 0x16 len value = _
  rw [instrOf, opcodeOf_bloomFilter]

theorem tagNanSync (len : Half) (value : List Byte) : Statement (.tagNanSync len value) := by
  show instrOf 0x17 len value = _
  rw [instrOf, opcodeOf_nanSync]

theorem tagElectionParamsV2 (len : Half) (value : List Byte) : Statement (.tagElectionParamsV2 len value) := by
  show instrOf 0x18 len value = _
  rw [instrOf, opcodeOf_electionParamsV2]

theorem tagUnassigned19 (len : Half) (value : List Byte) : Statement (.tagUnassigned19 len value) := by
  show instrOf 0x19 len value = _
  rw [instrOf, opcodeOf_unassigned19]

theorem tagUnassigned1A (low : BitVec 1) (len : Half) (value : List Byte) :
    Statement (.tagUnassigned1A low len value) := by
  have e : BitVec.extractLsb' 0 1 (13#7 ++ low) = low := extract_low _ low
  show instrOf (13#7 ++ low) len value = _
  unfold instrOf
  rw [opcodeOf_unassigned1A]
  show Instr.tagUnassigned1A _ len value = _
  rw [e]

theorem tagUnassigned1C (low : BitVec 2) (len : Half) (value : List Byte) :
    Statement (.tagUnassigned1C low len value) := by
  have e : BitVec.extractLsb' 0 2 (7#6 ++ low) = low := extract_low _ low
  show instrOf (7#6 ++ low) len value = _
  unfold instrOf
  rw [opcodeOf_unassigned1C]
  show Instr.tagUnassigned1C _ len value = _
  rw [e]

theorem tagUnassigned20 (low : BitVec 5) (len : Half) (value : List Byte) :
    Statement (.tagUnassigned20 low len value) := by
  have e : BitVec.extractLsb' 0 5 (1#3 ++ low) = low := extract_low _ low
  show instrOf (1#3 ++ low) len value = _
  unfold instrOf
  rw [opcodeOf_unassigned20]
  show Instr.tagUnassigned20 _ len value = _
  rw [e]

theorem tagUnassigned40 (low : BitVec 6) (len : Half) (value : List Byte) :
    Statement (.tagUnassigned40 low len value) := by
  have e : BitVec.extractLsb' 0 6 (1#2 ++ low) = low := extract_low _ low
  show instrOf (1#2 ++ low) len value = _
  unfold instrOf
  rw [opcodeOf_unassigned40]
  show Instr.tagUnassigned40 _ len value = _
  rw [e]

theorem tagUnassigned80 (low : BitVec 7) (len : Half) (value : List Byte) :
    Statement (.tagUnassigned80 low len value) := by
  have e : BitVec.extractLsb' 0 7 (1#1 ++ low) = low := extract_low _ low
  show instrOf (1#1 ++ low) len value = _
  unfold instrOf
  rw [opcodeOf_unassigned80]
  show Instr.tagUnassigned80 _ len value = _
  rw [e]


end Laws.InstrOfTag

end Sys2Proof
end

