-- ==== Sys2Proof/Laws/Phases.lean ====
section
/-! SUPPORT. What the CLASSIFY and HEADER steps answer, check by check, in terms of reads of the inputs. -/

namespace Sys2Proof.Machine

/-! Words and their byte lanes -/

/-- A word from its four byte lanes (R39, R85). -/
theorem word_of_lanes {w : Word} {a b c d : Byte} (ha : w.extractLsb' 0 8 = a) (hb : w.extractLsb' 8 8 = b)
    (hc : w.extractLsb' 16 8 = c) (hd : w.extractLsb' 24 8 = d) :
    w.toNat = a.toNat + 256 * b.toNat + 65536 * c.toNat + 16777216 * d.toNat := by
  subst ha hb hc hd
  have := w.isLt
  simp only [BitVec.extractLsb'_toNat, Nat.shiftRight_eq_div_pow]
  omega

/-- A half word from its two byte lanes (R40, R85). -/
theorem half_of_lanes {w : Half} {a b : Byte} (ha : w.extractLsb' 0 8 = a) (hb : w.extractLsb' 8 8 = b) :
    w.toNat = a.toNat + 256 * b.toNat := by
  subst ha hb
  have := w.isLt
  simp only [BitVec.extractLsb'_toNat, Nat.shiftRight_eq_div_pow]
  omega

/-! The checks of CLASSIFY -/

/-- The packed codes that mean management and action (R121, R182). -/
theorem ftypeFields_ok (l : PackedTypeLayout) (b : Byte) :
    ftypeFields l b = (0, 0xD, true) ↔
      match l with
      | .dot11Type6 => b = 0x34
      | .fc8 => b &&& 0xFC = 0xD0 := by
  cases l <;> revert b <;> decide +kernel

/-- The register values that hold the fixed BSSID (R39, R40, R183). -/
theorem State.bssid_ok (s : State) :
    s.bssid = awdlBssid ↔ s.inBssidLo = 0xFF002500 ∧ s.inBssidHi = 0x7394 := by
  simp only [State.bssid, awdlBssid, List.cons.injEq, and_true]
  constructor
  · rintro ⟨a, b, c, d, e, f⟩
    exact ⟨BitVec.eq_of_toNat_eq (word_of_lanes a b c d), BitVec.eq_of_toNat_eq (half_of_lanes e f)⟩
  · rintro ⟨h1, h2⟩
    rw [h1, h2]
    decide

/-- CheckCategory of a payload inside IBUF (R184). -/
theorem checkCategory_eq {s : State} (hl : s.inLen.toNat ≤ s.params.maxFrameLen) :
    checkCategory s =
      if s.inLen = 0 ∨ s.ibufByte 0 ≠ 127 then some .clsCategoryMismatch else none := by
  unfold checkCategory
  by_cases h : s.inLen.toNat < 1
  · rw [if_pos h, if_pos]
    exact .inl (BitVec.eq_of_toNat_eq (by simp; omega))
  · rw [if_neg h, State.memRead, State.memBytes_ok (by omega) hl]
    have h0 : s.inLen ≠ 0 := by
      intro e
      rw [e] at h
      simp at h
    have e : (s.ibufByte 0).toNat = 127 ↔ s.ibufByte 0 = 127 := by
      rw [← BitVec.toNat_inj]
      rfl
    simp [Except.map, List.range, List.range.loop, e]
    split <;> simp_all

/-- CheckOui of a payload inside IBUF (R185). -/
theorem checkOui_eq {s : State} (hl : s.inLen.toNat ≤ s.params.maxFrameLen) :
    checkOui s =
      if s.inLen.toNat < 4 ∨ ¬ (s.ibufByte 1 = 0x00 ∧ s.ibufByte 2 = 0x17 ∧ s.ibufByte 3 = 0xF2) then
        some .clsOuiMismatch
      else none := by
  unfold checkOui
  by_cases h : s.inLen.toNat < 4
  · simp [h]
  · rw [if_neg h, State.memBytes_ok (by omega) hl]
    simp [h, List.range, List.range.loop, awdlOui]
    split <;> rename_i h <;> simp_all

/-- A payload longer than IBUF fails the first check (R181). -/
theorem classifyError_long {s : State} (h : s.params.maxFrameLen < s.inLen.toNat) :
    classifyError s = some .outOfBounds := by
  simp [classifyError, checkLength, h]

/-- The later checks in their order, for a payload inside IBUF (R182 to R187). -/
theorem classifyError_inside {s : State} (h : s.inLen.toNat ≤ s.params.maxFrameLen) :
    classifyError s =
      if ftypeFields s.params.packedTypeLayout s.inFtype ≠ (0, 0xD, true) then some .clsNotMgmtAction
      else if s.bssid ≠ awdlBssid then some .clsBssidMismatch
      else if s.inLen = 0 ∨ s.ibufByte 0 ≠ 127 then some .clsCategoryMismatch
      else if s.inLen.toNat < 4 ∨ ¬ (s.ibufByte 1 = 0x00 ∧ s.ibufByte 2 = 0x17 ∧ s.ibufByte 3 = 0xF2) then
        some .clsOuiMismatch
      else none := by
  simp only [classifyError, List.findSome?_cons, List.findSome?_nil, checkCategory_eq h, checkOui_eq h,
    checkLength, checkType, checkBssid, Nat.not_lt.2 h, if_false]
  repeat' split
  all_goals (simp_all; try omega)

/-- The codes CLASSIFY can raise (R341). -/
theorem classifyError_codes {s : State} {e : ErrCode} (h : classifyError s = some e) :
    e ≠ .none ∧ e ≠ .truncatedTlvPayload := by
  by_cases hl : s.params.maxFrameLen < s.inLen.toNat
  · rw [classifyError_long hl] at h
    cases h
    exact ⟨by decide, by decide⟩
  · rw [classifyError_inside (by omega)] at h
    repeat' split at h
    all_goals first
      | (cases h; exact ⟨by decide, by decide⟩)
      | cases h

/-- What an accepted payload is (R186). -/
theorem classifyError_none {s : State} (h : classifyError s = none) :
    s.inLen.toNat ≤ s.params.maxFrameLen ∧ 4 ≤ s.inLen.toNat ∧ s.ibufByte 0 = 127 ∧ s.ibufByte 1 = 0x00 ∧
      s.ibufByte 2 = 0x17 ∧ s.ibufByte 3 = 0xF2 := by
  by_cases hl : s.params.maxFrameLen < s.inLen.toNat
  · rw [classifyError_long hl] at h
    cases h
  · rw [classifyError_inside (by omega)] at h
    repeat' split at h
    all_goals first
      | cases h; done
      | skip
    rename_i h0 h4
    simp only [not_or, not_lt, Decidable.not_not] at h0 h4
    exact ⟨by omega, h4.1, h0.2, h4.2⟩

theorem classifyStep_raise {s : State} {e : ErrCode} (h : classifyError s = some e) :
    classifyStep s = s.raise e 0 := by
  rw [classifyStep, h]

theorem classifyStep_pass {s : State} (h : classifyError s = none) :
    classifyStep s = { s with phase := .header } := by
  rw [classifyStep, h]

/-! HEADER -/

/-- The header registers of a payload that has a whole header (R200, R202). -/
theorem headerWords_ok {s : State} (h : 16 ≤ s.inLen.toNat) (hm : s.inLen.toNat ≤ s.params.maxFrameLen) :
    headerWords s = .ok
      (BitVec.ofNat 32 (le ((List.range 4).map (fun k => s.ibufByte (0 + k)))),
       BitVec.ofNat 32 (le ((List.range 4).map (fun k => s.ibufByte (4 + k)))),
       BitVec.ofNat 32 (le ((List.range 4).map (fun k => s.ibufByte (8 + k)))),
       BitVec.ofNat 32 (le ((List.range 4).map (fun k => s.ibufByte (12 + k))))) := by
  unfold headerWords State.memRead
  rw [State.memBytes_ok (by omega) hm, State.memBytes_ok (by omega) hm, State.memBytes_ok (by omega) hm,
    State.memBytes_ok (by omega) hm]
  rfl

/-- The HEADER step of a payload that is too short (R201). -/
theorem headerStep_short {s : State} (h : s.inLen.toNat < 16) : headerStep s = s.raise .truncatedHeader 0 := by
  rw [headerStep, if_pos h]

/-- The HEADER step of a payload inside IBUF that has a whole header (R200, R206). -/
theorem headerStep_ok {s : State} (h : 16 ≤ s.inLen.toNat) (hm : s.inLen.toNat ≤ s.params.maxFrameLen) :
    headerStep s = { s with
      hdr0 := BitVec.ofNat 32 (le ((List.range 4).map (fun k => s.ibufByte (0 + k))))
      hdr1 := BitVec.ofNat 32 (le ((List.range 4).map (fun k => s.ibufByte (4 + k))))
      phyTxTime := BitVec.ofNat 32 (le ((List.range 4).map (fun k => s.ibufByte (8 + k))))
      targetTxTime := BitVec.ofNat 32 (le ((List.range 4).map (fun k => s.ibufByte (12 + k))))
      cursor := 16, phase := .seg } := by
  rw [headerStep, if_neg (by omega), headerWords_ok h hm]

/-- In states no run reaches, the header of a payload longer than IBUF is out of bounds (log 12). -/
theorem headerStep_long {s : State} (h : 16 ≤ s.inLen.toNat) (hm : s.params.maxFrameLen < s.inLen.toNat) :
    headerStep s = s.raise .outOfBounds 0 := by
  have e : headerWords s = .error .outOfBounds := by
    unfold headerWords State.memRead
    rw [State.memBytes, if_pos (.inr hm)]
    rfl
  rw [headerStep, if_neg (by omega), e]

end Sys2Proof.Machine
end

