-- ==== Sys2Proof/Tests/Slice0.lean ====
section
/-! SUPPORT. Small tests and witnesses. Expected results come from `95_test_vectors.md` (named in each
docstring) or are computed by hand from the rule named. A `witness_<Name>` theorem shows a concrete state that
meets all hypotheses of `Obligations.<Name>` together, clause by clause at boundary values. -/

set_option Elab.async false

namespace Sys2Proof.Tests

open Sys2Proof.Machine

/-! Helpers -/

/-- The state a step answers, if it answers one. -/
def nextOf : Host.Outcome State Fault Refusal → Option State
  | .next s => some s
  | .fault _ => none
  | .refused _ => none

/-- The common prefix H of `95_test_vectors.md` section 0. -/
def prefixH : List Byte :=
  [0x7f, 0x00, 0x17, 0xf2, 0x08, 0x10, 0x00, 0x00, 0x11, 0x22, 0x33, 0x44, 0x55, 0x66, 0x77, 0x88]

/-- A buffer with these bytes from offset 0. -/
def bufOf (bs : List Byte) : Memory := (List.range bs.length).zip bs

/-- The block after reset with a payload and the inputs of `95_test_vectors.md` section 0 loaded. -/
def loaded (p : List Byte) : State :=
  { State.reset with
    ibuf := bufOf p, inLen := BitVec.ofNat 16 p.length
    inFtype := 0x34, inBssidLo := 0xFF002500, inBssidHi := 0x7394 }

/-- The payload loaded and a decode started. -/
def classifying (p : List Byte) : State := { loaded p with phase := .classify }

/-- The payload loaded, in HEADER. -/
def inHeader (p : List Byte) : State := { loaded p with phase := .header }

/-- The payload loaded, in SEG at the stream start. -/
def inSeg (p : List Byte) : State := { loaded p with phase := .seg, cursor := 16 }

/-- In DISPATCH with one table entry of this tag and value. -/
def inDispatch (tag : Byte) (value : List Byte) (pfe : Bool) : State :=
  { loaded [] with
    phase := .dispatch, pfe := pfe, pbuf := bufOf value
    tlvt := [(0, { tag := tag, len := BitVec.ofNat 16 value.length, poff := 0, kind := .none })]
    tidx := 1, pwr := BitVec.ofNat 16 value.length }

/-- In DONE with one table entry of this tag, kind and value, selected by ENTRY_SEL. -/
def inDone (tag : Byte) (kind : Kind) (value : List Byte) : State :=
  { loaded [] with
    phase := .done, irqPend := true, pbuf := bufOf value
    tlvt := [(0, { tag := tag, len := BitVec.ofNat 16 value.length, poff := 0, kind := kind })]
    tidx := 1, didx := 1, tlvCount := 1, pwr := BitVec.ofNat 16 value.length }

/-- The host moves next, with one transaction. -/
def host (op : HostOp) (s : State) : State := { s with schedule := [.host op] }

/-- The response the next step gives. -/
def answer (s : State) : Option Response := (nextOf (step s)).bind (fun t => t.responses.head?)

/-- A field of the state the next step answers. -/
def after {α : Type} (f : State → α) (s : State) : Option α := (nextOf (step s)).map f

/-- The 16 channel pairs of `95_test_vectors.md` vector CS1. -/
def channels : List Byte :=
  [0x06, 0x51, 0x2c, 0x51, 0x95, 0x51, 0x06, 0x51, 0x2c, 0x51, 0x95, 0x51, 0x06, 0x51, 0x2c, 0x51,
   0x95, 0x51, 0x06, 0x51, 0x2c, 0x51, 0x95, 0x51, 0x06, 0x51, 0x2c, 0x51, 0x95, 0x51, 0x06, 0x51]

/-- The payload of vector CS1 (41 bytes). -/
def chseq : List Byte := [0x03, 0x03, 0x00, 0x01, 0x95, 0x00] ++ channels ++ [0x00, 0x00, 0x00]

/-- The payload of vector SY1 and program P1 (41 bytes). -/
def sync : List Byte :=
  [0x06, 0x02, 0x11, 0x22, 0x33, 0x44, 0x55,
   0x00, 0x06, 0x01, 0x2c, 0x00, 0x95, 0x01, 0x06, 0x00, 0x2c, 0x01, 0x95, 0x00, 0x06, 0x01, 0x2c,
   0x00, 0x95, 0x01, 0x06, 0x00, 0x2c, 0x01, 0x95, 0x00, 0x06, 0x01, 0x2c, 0x00, 0x95, 0x01, 0x06,
   0xee, 0xff]

/-- The payload e1 of section 2.6 (21 bytes). -/
def elec1 : List Byte :=
  [0x01, 0x34, 0x12, 0x02, 0x00, 0xaa, 0xbb, 0xcc, 0xdd, 0xee, 0xff, 0x78, 0x56, 0x34, 0x12,
   0x01, 0x00, 0x00, 0x80, 0x00, 0x00]

/-- The payload of vector EB1 (40 bytes). -/
def elec2 : List Byte :=
  [0x10, 0x11, 0x12, 0x13, 0x14, 0x15, 0x20, 0x21, 0x22, 0x23, 0x24, 0x25,
   0x01, 0x00, 0x00, 0x00, 0x02, 0x00, 0x00, 0x00, 0xf4, 0x01, 0x00, 0x00, 0xc2, 0x01, 0x00, 0x00,
   0xef, 0xbe, 0xad, 0xde, 0x00, 0x00, 0x00, 0x00, 0x02, 0x01, 0x00, 0x00]

/-! WellFormed -/

/-- A TLV whose length field says 2 and whose value has 1 byte is no TLV (R125). -/
theorem test_wf_refuses_short_value : (Instr.tagNanSync 2 [0xaa]).wf = false := by decide

/-- A TLV whose value is longer than its length field says is no TLV (R125). -/
theorem test_wf_refuses_long_value : (Instr.tagUnassigned80 0x48 0 [0xaa]).wf = false := by decide

/-- A zero-length TLV is well formed (R225). -/
theorem test_wf_accepts_empty : (Instr.tagEdrCapabilities 0 []).wf = true := by decide

/-! Decoding: one word per row, written out from R125 and the row of R136 -/

theorem test_decode_tagSsthRequest : decode [0x00, 0x02, 0x00, 0xaa, 0xbb] = .ok (.tagSsthRequest 2 [0xaa, 0xbb], []) := by decide +kernel
theorem test_decode_tagServiceRequest : decode [0x01, 0x02, 0x00, 0xaa, 0xbb] = .ok (.tagServiceRequest 2 [0xaa, 0xbb], []) := by decide +kernel
theorem test_decode_tagServiceResponse : decode [0x02, 0x02, 0x00, 0xaa, 0xbb] = .ok (.tagServiceResponse 2 [0xaa, 0xbb], []) := by decide +kernel
theorem test_decode_tagUnknown3 : decode [0x03, 0x02, 0x00, 0xaa, 0xbb] = .ok (.tagUnknown3 2 [0xaa, 0xbb], []) := by decide +kernel
theorem test_decode_tagSyncParams : decode [0x04, 0x02, 0x00, 0xaa, 0xbb] = .ok (.tagSyncParams 2 [0xaa, 0xbb], []) := by decide +kernel
theorem test_decode_tagElectionParams : decode [0x05, 0x02, 0x00, 0xaa, 0xbb] = .ok (.tagElectionParams 2 [0xaa, 0xbb], []) := by decide +kernel
theorem test_decode_tagServiceParameters : decode [0x06, 0x02, 0x00, 0xaa, 0xbb] = .ok (.tagServiceParameters 2 [0xaa, 0xbb], []) := by decide +kernel
theorem test_decode_tagEdrCapabilities : decode [0x07, 0x02, 0x00, 0xaa, 0xbb] = .ok (.tagEdrCapabilities 2 [0xaa, 0xbb], []) := by decide +kernel
theorem test_decode_tagEdrOperation : decode [0x08, 0x02, 0x00, 0xaa, 0xbb] = .ok (.tagEdrOperation 2 [0xaa, 0xbb], []) := by decide +kernel
theorem test_decode_tagInfra : decode [0x09, 0x02, 0x00, 0xaa, 0xbb] = .ok (.tagInfra 2 [0xaa, 0xbb], []) := by decide +kernel
theorem test_decode_tagInvite : decode [0x0a, 0x02, 0x00, 0xaa, 0xbb] = .ok (.tagInvite 2 [0xaa, 0xbb], []) := by decide +kernel
theorem test_decode_tagDebugString : decode [0x0b, 0x02, 0x00, 0xaa, 0xbb] = .ok (.tagDebugString 2 [0xaa, 0xbb], []) := by decide +kernel
theorem test_decode_tagDatapathState : decode [0x0c, 0x02, 0x00, 0xaa, 0xbb] = .ok (.tagDatapathState 2 [0xaa, 0xbb], []) := by decide +kernel
theorem test_decode_tagEncapsulatedIp : decode [0x0d, 0x02, 0x00, 0xaa, 0xbb] = .ok (.tagEncapsulatedIp 2 [0xaa, 0xbb], []) := by decide +kernel
theorem test_decode_tagDatapathDebugPacketLive : decode [0x0e, 0x02, 0x00, 0xaa, 0xbb] = .ok (.tagDatapathDebugPacketLive 2 [0xaa, 0xbb], []) := by decide +kernel
theorem test_decode_tagDatapathDebugAfLive : decode [0x0f, 0x02, 0x00, 0xaa, 0xbb] = .ok (.tagDatapathDebugAfLive 2 [0xaa, 0xbb], []) := by decide +kernel
theorem test_decode_tagArpa : decode [0x10, 0x02, 0x00, 0xaa, 0xbb] = .ok (.tagArpa 2 [0xaa, 0xbb], []) := by decide +kernel
theorem test_decode_tagIeee80211Container : decode [0x11, 0x02, 0x00, 0xaa, 0xbb] = .ok (.tagIeee80211Container 2 [0xaa, 0xbb], []) := by decide +kernel
theorem test_decode_tagChannelSequence : decode [0x12, 0x02, 0x00, 0xaa, 0xbb] = .ok (.tagChannelSequence 2 [0xaa, 0xbb], []) := by decide +kernel
theorem test_decode_tagUnknown19 : decode [0x13, 0x02, 0x00, 0xaa, 0xbb] = .ok (.tagUnknown19 2 [0xaa, 0xbb], []) := by decide +kernel
theorem test_decode_tagSyncTree : decode [0x14, 0x02, 0x00, 0xaa, 0xbb] = .ok (.tagSyncTree 2 [0xaa, 0xbb], []) := by decide +kernel
theorem test_decode_tagVersion : decode [0x15, 0x02, 0x00, 0xaa, 0xbb] = .ok (.tagVersion 2 [0xaa, 0xbb], []) := by decide +kernel
theorem test_decode_tagBloomFilter : decode [0x16, 0x02, 0x00, 0xaa, 0xbb] = .ok (.tagBloomFilter 2 [0xaa, 0xbb], []) := by decide +kernel
theorem test_decode_tagNanSync : decode [0x17, 0x02, 0x00, 0xaa, 0xbb] = .ok (.tagNanSync 2 [0xaa, 0xbb], []) := by decide +kernel
theorem test_decode_tagElectionParamsV2 : decode [0x18, 0x02, 0x00, 0xaa, 0xbb] = .ok (.tagElectionParamsV2 2 [0xaa, 0xbb], []) := by decide +kernel
theorem test_decode_tagUnassigned19 : decode [0x19, 0x02, 0x00, 0xaa, 0xbb] = .ok (.tagUnassigned19 2 [0xaa, 0xbb], []) := by decide +kernel

/-- The masked rows, at both ends of each (R269): the open tag bits are the operand. -/
theorem test_decode_tagUnassigned1A :
    decode [0x1a, 0x00, 0x00] = .ok (.tagUnassigned1A 0 0 [], []) ∧
    decode [0x1b, 0x00, 0x00] = .ok (.tagUnassigned1A 1 0 [], []) := by decide +kernel
theorem test_decode_tagUnassigned1C :
    decode [0x1c, 0x00, 0x00] = .ok (.tagUnassigned1C 0 0 [], []) ∧
    decode [0x1f, 0x00, 0x00] = .ok (.tagUnassigned1C 3 0 [], []) := by decide +kernel
theorem test_decode_tagUnassigned20 :
    decode [0x20, 0x00, 0x00] = .ok (.tagUnassigned20 0 0 [], []) ∧
    decode [0x3f, 0x00, 0x00] = .ok (.tagUnassigned20 31 0 [], []) := by decide +kernel
theorem test_decode_tagUnassigned40 :
    decode [0x40, 0x00, 0x00] = .ok (.tagUnassigned40 0 0 [], []) ∧
    decode [0x7f, 0x00, 0x00] = .ok (.tagUnassigned40 63 0 [], []) := by decide +kernel
theorem test_decode_tagUnassigned80 :
    decode [0xc8, 0x02, 0x00, 0x09, 0x09] = .ok (.tagUnassigned80 0x48 2 [0x09, 0x09], []) ∧
    decode [0xff, 0x00, 0x00] = .ok (.tagUnassigned80 0x7f 0 [], []) := by decide +kernel

/-- The length is little-endian (R126): 0x0102 = 258 value bytes are asked for, 2 are there. -/
theorem test_decode_length_order : decode [0x07, 0x02, 0x01, 0xaa, 0xbb] = .error .truncatedValue := by
  decide +kernel

/-- A table word of one byte is a tag with length 0; one of three bytes carries its length. -/
theorem test_decodeTableWord :
    decodeTableWord 8 0x04 = some (.tagSyncParams 0 []) ∧
    decodeTableWord 24 0x000118 = some (.tagElectionParamsV2 1 [0x00]) := by decide +kernel

/-! CLASSIFY and HEADER -/

/-- Vectors CL1, CL2, CL5, CL6: the type check under DOT11TYPE6 (R182). -/
theorem test_classify_type :
    after (·.phase) (classifying prefixH) = some .header ∧
    after (·.errCode) { classifying prefixH with inFtype := 0x74 } = some .clsNotMgmtAction ∧
    after (·.errCode) { classifying prefixH with inFtype := 0x35 } = some .clsNotMgmtAction ∧
    after (·.errCode) { classifying prefixH with inFtype := 0x30 } = some .clsNotMgmtAction := by decide +kernel

/-- Vectors CL11, CL12, CL15: the type check under FC8 (R182). -/
theorem test_classify_type_fc8 :
    ([0xD0, 0xD1, 0xD2, 0xD3, 0xD4, 0x34].map (fun ft => after (·.phase)
      { classifying prefixH with
        params := { Params.default with packedTypeLayout := .fc8 }, inFtype := ft })) =
      [some .header, some .header, some .header, some .header, some .error, some .error] := by decide +kernel

/-- Vectors CL16, CL18, CL19, CL21, CL23: BSSID, category and OUI (R183 to R185). -/
theorem test_classify_payload :
    after (·.errCode) { classifying prefixH with inBssidHi := 0x7294 } = some .clsBssidMismatch ∧
    after (·.errCode) (classifying []) = some .clsCategoryMismatch ∧
    after (·.errCode) (classifying [0x7e, 0x00, 0x17, 0xf2]) = some .clsCategoryMismatch ∧
    after (·.errCode) (classifying [0x7f]) = some .clsOuiMismatch ∧
    after (·.errCode) (classifying [0x7f, 0xf2, 0x17, 0x00]) = some .clsOuiMismatch := by decide +kernel

/-- Vectors CL17, CL26: the order of the checks (R187, R352). -/
theorem test_classify_order :
    after (·.errCode) { classifying prefixH with inBssidLo := 0, inBssidHi := 0, inFtype := 0x35 } =
      some .clsNotMgmtAction ∧
    after (·.errCode) { classifying prefixH with inLen := 4097, inFtype := 0x35 } = some .outOfBounds := by
  decide +kernel

/-- Vector HD1: the header registers (R200, R202). -/
theorem test_header_words :
    after (fun t => (t.hdr0, t.hdr1, t.phyTxTime, t.targetTxTime)) (inHeader prefixH) =
      some (0xF217007F, 0x00001008, 0x44332211, 0x88776655) := by decide +kernel

/-- Vectors HD2, HD3: a short header, and the nibbles of the version byte (R201, R43). -/
theorem test_header_fields :
    after (·.errCode) { inHeader prefixH with inLen := 15 } = some .truncatedHeader ∧
    after (fun t => (t.hdr1, t.ptype, t.verMajor, t.verMinor))
      (inHeader (prefixH.take 4 ++ [0x08, 0x3a, 0x07, 0xff] ++ prefixH.drop 8)) =
      some (0xFF073A08, 0x08, 3, 0xA) := by decide +kernel

/-! SEG -/

/-- Vectors S1, S3, S4, S5, S7: the end of the stream and the truncation checks (R216 to R218). -/
theorem test_seg_ends :
    after (·.phase) (inSeg prefixH) = some .dispatch ∧
    after (·.errCode) (inSeg (prefixH ++ [0x07])) = some .truncatedTlv ∧
    after (·.errCode) (inSeg (prefixH ++ [0x07, 0x00])) = some .truncatedTlv ∧
    after (·.errCode) (inSeg (prefixH ++ [0x07, 0xff, 0xff])) = some .truncatedTlv ∧
    after (·.errCode) (inSeg (prefixH ++ [0xc8, 0x03, 0x00, 0x09, 0x09])) = some .truncatedTlv := by
  decide +kernel

/-- Vector S6: the record of a TLV, its payload copy and the cursor (R219, R220, R222). -/
theorem test_seg_records :
    after (fun t => (t.entry 0, t.tidx, t.pwr, t.cursor)) (inSeg (prefixH ++ [0xc8, 0x02, 0x00, 0x09, 0x0a])) =
      some ({ tag := 0xc8, len := 2, poff := 0, kind := .none }, 1, 2, 21) ∧
    after (fun t => [t.pbufByte 0, t.pbufByte 1]) (inSeg (prefixH ++ [0xc8, 0x02, 0x00, 0x09, 0x0a])) =
      some [0x09, 0x0a] := by decide +kernel

/-- Vector S2: a zero-length TLV advances the cursor by 3 and copies nothing (R225). -/
theorem test_seg_empty :
    after (fun t => (t.entry 0, t.pwr, t.cursor)) (inSeg (prefixH ++ [0x07, 0x00, 0x00])) =
      some ({ tag := 0x07, len := 0, poff := 0, kind := .none }, 0, 19) := by decide +kernel

/-- Vector S10: the table is full (R221). -/
theorem test_seg_overflow :
    after (·.errCode) { inSeg (prefixH ++ [0x07, 0x00, 0x00]) with
      params := { Params.default with maxTlvs := 2 }, tidx := 2 } = some .tlvTableOverflow := by decide +kernel

/-! DISPATCH -/

/-- Vector U1: every tag without a decoder becomes UNRECOGNIZED, and PERR stays 0 (R248 to R269). -/
theorem test_dispatch_unrecognized :
    ∀ tag ∈ ([0x00, 0x01, 0x02, 0x03, 0x06, 0x07, 0x08, 0x09, 0x0A, 0x0B, 0x0C, 0x0D, 0x0E, 0x0F, 0x10, 0x11,
        0x13, 0x14, 0x15, 0x16, 0x17, 0x19, 0x1A, 0x1B, 0x1C, 0x20, 0x40, 0x7F, 0x80, 0xC8, 0xFF] : List Byte),
      after (fun t => ((t.entry 0).kind, t.perr, t.didx)) (inDispatch tag [0xaa, 0xbb] true) =
        some (.unrecognized, false, 1) := by decide +kernel

/-- Vectors SY1, EA1, CS1, EB1: a payload of the minimum length gets its KIND (R241). -/
theorem test_dispatch_kinds :
    after (fun t => (t.entry 0).kind) (inDispatch 0x04 sync true) = some .sync ∧
    after (fun t => (t.entry 0).kind) (inDispatch 0x05 elec1 true) = some .electionV1 ∧
    after (fun t => (t.entry 0).kind) (inDispatch 0x12 chseq true) = some .channelSeq ∧
    after (fun t => (t.entry 0).kind) (inDispatch 0x18 elec2 true) = some .electionV2 := by decide +kernel

/-- Vectors SY2, EA2, CS2, EB2: one byte less is TRUNCATED_PAYLOAD and sets PERR (R242, R243). -/
theorem test_dispatch_short :
    ∀ x ∈ [((0x04 : Byte), 40), (0x05, 20), (0x12, 40), (0x18, 39)],
      after (fun t => ((t.entry 0).kind, t.perr, t.phase)) (inDispatch x.1 (List.replicate x.2 0) false) =
        some (.truncatedPayload, true, .dispatch) := by decide +kernel

/-- Vectors SY2b and SY4: with PFE = 1 a short payload ends the decode naming the tag; SYNC_SCALAR_LEN moves
the minimum of tag 4 (R242, R291). -/
theorem test_dispatch_fails :
    after (fun t => (t.phase, t.errWord)) (inDispatch 0x04 (List.replicate 40 0) true) =
      some (.error, 0x00000407) ∧
    after (fun t => (t.entry 0).kind) { inDispatch 0x04 sync false with
      params := { Params.default with syncScalarLen := 3 } } = some .truncatedPayload := by decide +kernel

/-- The finish of a decode (R167). -/
theorem test_dispatch_finish :
    after (fun t => (t.phase, t.tlvCount, t.irqPend)) { inDispatch 0x00 [] false with didx := 1 } =
      some (.done, 1, true) := by decide +kernel

/-! Fields (SY1, EA1, EB1, CS1; R292, R306, R316, R326) -/

theorem test_fields_sync :
    (List.range 34).map (fun k => (inDone 0x04 .sync sync).fieldOf ((inDone 0x04 .sync sync).entry 0) k) =
      [0, 0x06, 1, 0x2C, 0, 0x95, 1, 0x06, 0, 0x2C, 1, 0x95, 0, 0x06, 1, 0x2C, 0, 0x95, 1, 0x06, 0, 0x2C,
       1, 0x95, 0, 0x06, 1, 0x2C, 0, 0x95, 1, 0x06, 0, 0] := by decide +kernel

theorem test_fields_electionV1 :
    (List.range 7).map (fun k => (inDone 0x05 .electionV1 elec1).fieldOf
      ((inDone 0x05 .electionV1 elec1).entry 0) k) =
      [0x1, 0x1234, 0x2, 0x0, 0x12345678, 0x80000001, 0] := by decide +kernel

theorem test_fields_electionV2 :
    (List.range 8).map (fun k => (inDone 0x18 .electionV2 elec2).fieldOf
      ((inDone 0x18 .electionV2 elec2).entry 0) k) =
      [0x1, 0x2, 0x1F4, 0x1C2, 0xDEADBEEF, 0x0, 0x102, 0] := by decide +kernel

theorem test_fields_channelSeq :
    (List.range 38).map (fun k => (inDone 0x12 .channelSeq chseq).fieldOf
      ((inDone 0x12 .channelSeq chseq).entry 0) k) =
      [3, 3, 0, 1, 0x95] ++ (channels.map (fun b => b.zeroExtend 32)) ++ [0] := by decide +kernel

/-- Vectors SY6, EB4: raw fields by their offsets (R293, R316). -/
theorem test_raw_fields :
    fieldRaw? Params.default .sync .masterAddress sync = some [0x02, 0x11, 0x22, 0x33, 0x44, 0x55] ∧
    fieldRaw? Params.default .sync .padding sync = some [0xee, 0xff] ∧
    fieldRaw? Params.default .electionV2 .otherAddress elec2 = some [0x20, 0x21, 0x22, 0x23, 0x24, 0x25] := by
  decide +kernel

/-! Host transactions (section 2.9) and reset -/

/-- HC1, HC4: reads after reset, and of the reserved range. -/
theorem test_host_reset_reads :
    [0x000, 0x004, 0x008, 0x038, 0x30000].map (fun a => answer (host (.read 32 a) State.reset)) =
      [some (.data 0x54535001), some (.data 0), some (.data 0), some (.data 0), some (.data 0)] := by decide +kernel

/-- HC2, HC6: illegal widths and alignments. -/
theorem test_host_illegal :
    answer (host (.write 8 0x004 0x01) State.reset) = some .busErr ∧
    answer (host (.read 16 0x10001) State.reset) = some .busErr ∧
    answer (host (.read 32 0x10002) State.reset) = some .busErr := by decide +kernel

/-- HC5, HC20: little-endian byte lanes of the windows (R85). -/
theorem test_host_lanes :
    after (fun t => [t.ibufByte 0, t.ibufByte 1, t.ibufByte 2, t.ibufByte 3])
      (host (.write 32 0x10000 0xF217007F) State.reset) = some [0x7F, 0x00, 0x17, 0xF2] ∧
    [0x10000, 0x10001, 0x10002, 0x10003].map (fun a => answer (host (.read 8 a) (loaded prefixH))) =
      [0x7F, 0x00, 0x17, 0xF2].map (fun v => some (.data v)) ∧
    answer (host (.read 16 0x20002) (inDone 0x05 .electionV1 elec1)) = some (.data 0x0212) := by decide +kernel

/-- HC9, HC10: reserved bits of a write are dropped (R37, R38). -/
theorem test_host_input_writes :
    after (·.inLen) (host (.write 32 0x010 0x00012345) State.reset) = some 0x2345 ∧
    after (·.inFtype) (host (.write 32 0x014 0x00001234) State.reset) = some 0x34 := by decide +kernel

/-- HC11, HC12, HC13: STATUS and CTRL writes in DONE (R163, R164). -/
theorem test_host_status_ctrl :
    after (·.statusWord) (host (.write 32 0x008 0x4) (inDone 0x00 .unrecognized [])) = some 0x02 ∧
    after (·.statusWord) (host (.write 32 0x008 0x3) (inDone 0x00 .unrecognized [])) = some 0x06 ∧
    after (fun t => (t.ctrlWord, t.irq, t.phase)) (host (.write 32 0x004 0x2) (inDone 0x00 .unrecognized [])) =
      some (0x2, true, .done) := by decide +kernel

/-- HC14, HC15, HC16: STATUS reads while BUSY; writes while BUSY are dropped (R392). -/
theorem test_host_busy :
    answer (host (.read 32 0x008) (inSeg prefixH)) = some (.data 0x01) ∧
    after (fun t => (t.entrySel, t.wdrop)) (host (.write 32 0x034 3) (inSeg prefixH)) = some (0, true) ∧
    after (fun t => (t.phase, t.wdrop)) (host (.write 32 0x004 1) (inSeg prefixH)) = some (.seg, true) := by
  decide +kernel

/-- ENTRY_INFO of vector EA1; ENTRY_INFO, ENTRY_POFF and FIELD[0] when no entry is shown (HC17; R47, R48, R54). -/
theorem test_host_entry :
    answer (host (.read 32 0x038) (inDone 0x05 .electionV1 elec1)) = some (.data 0x00150205) ∧
    [0x038, 0x03C, 0x100].map (fun a => answer (host (.read 32 a) { inDone 0x05 .electionV1 elec1 with entrySel := 1 })) =
      [some (.data 0), some (.data 0), some (.data 0)] := by decide +kernel

/-- HC23: START from DONE clears the results (R162). -/
theorem test_host_start :
    after (fun t => (t.phase, t.tlvCount, t.irqPend, t.statusWord))
      (host (.write 32 0x004 0x1) (inDone 0x05 .electionV1 elec1)) = some (.classify, 0, false, 0x01) := by
  decide +kernel

/-- RS2: `rst` during a decode (R381). -/
theorem test_reset_aborts :
    after (fun t => (t.phase, t.statusWord, t.tlvCount, t.tidx)) { inDispatch 0x05 elec1 true with schedule := [.rst] } =
      some (.idle, 0, 0, 0) := by decide +kernel

/-! The reference function on whole payloads (section 3) -/

/-- Program P4a: entries, KIND and PERR. -/
theorem test_reference_p4a :
    (referenceDecode (loaded (prefixH ++ [0x18, 0x0a, 0x00, 0, 1, 2, 3, 4, 5, 6, 7, 8, 9, 0x0b, 0x02, 0x00,
        0x68, 0x69]))).map (fun f => (f.entries, f.perr)) =
      .ok ([({ tag := 24, len := 10, poff := 0, kind := .truncatedPayload }, [0, 1, 2, 3, 4, 5, 6, 7, 8, 9]),
        ({ tag := 11, len := 2, poff := 10, kind := .unrecognized }, [0x68, 0x69])], true) := by decide +kernel

/-- Programs P4b and P3, vectors S9 and U5: the errors and their tags. -/
theorem test_reference_errors :
    referenceDecode { loaded (prefixH ++ [0x18, 0x0a, 0x00, 0, 1, 2, 3, 4, 5, 6, 7, 8, 9]) with pfe := true } =
      .error (.truncatedTlvPayload, 24) ∧
    referenceDecode (loaded (prefixH ++ [0x09, 0xc8, 0x00] ++ List.replicate 47 0)) = .error (.truncatedTlv, 0) ∧
    referenceDecode (loaded (prefixH ++ [0x07, 0x00, 0x00, 0x01])) = .error (.truncatedTlv, 0) ∧
    referenceDecode { loaded (prefixH ++ [0x05, 0x00, 0x00, 0x01]) with pfe := true } = .error (.truncatedTlv, 0) := by
  decide +kernel

/-! `withFetchWord` -/

/-- After reset, a table word of one byte is fetched and recorded by the very next step. -/
theorem test_withFetchWord :
    after (fun t => (t.entry 0, t.cursor, t.phase)) (State.reset.withFetchWord 8 0x12) =
      some ({ tag := 0x12, len := 0, poff := 0, kind := .none }, 19, .seg) := by decide +kernel

/-! Witnesses: the hypotheses of the statements hold together, clause by clause -/

theorem witness_DecodeOfEncode :
    (Instr.tagNanSync 2 [0xaa, 0xbb]).wf = true ∧ (Instr.tagUnassigned80 0x7f 0 []).wf = true := by decide +kernel

theorem witness_EncodeOfDecode :
    decode [0x17, 0x02, 0x00, 0xaa, 0xbb, 0xcc] = .ok (.tagNanSync 2 [0xaa, 0xbb], [0xcc]) := by decide +kernel

/-- Exact fit of the tag length. -/
theorem witness_StepRunsTlvAtCursor :
    (inSeg (prefixH ++ [0x07, 0x01, 0x00, 0x55])).parserTurn ∧
    (inSeg (prefixH ++ [0x07, 0x01, 0x00, 0x55])).phase = .seg ∧
    (inSeg (prefixH ++ [0x07, 0x01, 0x00, 0x55])).inLen.toNat ≤
      (inSeg (prefixH ++ [0x07, 0x01, 0x00, 0x55])).params.maxFrameLen ∧
    decode ((List.range (20 - 16)).map
      (fun k => (inSeg (prefixH ++ [0x07, 0x01, 0x00, 0x55])).ibufByte (16 + k))) =
      .ok (.tagEdrCapabilities 1 [0x55], []) :=
  ⟨.inl rfl, rfl, by decide +kernel, by decide +kernel⟩

theorem witness_StepRunsEntryAtDispatch :
    (inDispatch 0x07 [0x55] false).parserTurn ∧ (inDispatch 0x07 [0x55] false).phase = .dispatch ∧
    (inDispatch 0x07 [0x55] false).didx ≠ (inDispatch 0x07 [0x55] false).tidx ∧
    (inDispatch 0x07 [0x55] false).entry 0 = { tag := 0x07, len := 1, poff := 0, kind := .none } ∧
    decode (0x07 :: (1 : Half).extractLsb' 0 8 :: (1 : Half).extractLsb' 8 8 ::
      (List.range 1).map (fun k => (inDispatch 0x07 [0x55] false).pbufByte (0 + k))) =
      .ok (.tagEdrCapabilities 1 [0x55], []) :=
  ⟨.inl rfl, rfl, by decide +kernel, by decide +kernel, by decide +kernel⟩

/-- Each quiescent phase, with an empty schedule and with a parser turn scheduled. -/
theorem witness_QuiescentParserTurn :
    State.reset.parserTurn ∧ State.reset.phase = .idle ∧
    ({ inDone 0x00 .unrecognized [] with schedule := [.parser] } : State).parserTurn ∧
    ({ inDone 0x00 .unrecognized [] with schedule := [.parser] } : State).phase = .done ∧
    (State.reset.raise .truncatedTlv 0).parserTurn ∧ (State.reset.raise .truncatedTlv 0).phase = .error :=
  ⟨.inl rfl, rfl, .inr rfl, rfl, .inl rfl, rfl⟩

theorem witness_NoTlvStepOutsideSegAndDispatch :
    State.reset.phase ≠ .seg ∧ State.reset.phase ≠ .dispatch := by decide +kernel

/-- Room for one entry only, and a value that ends at the last byte of PBUF. -/
theorem witness_SegRecordsTlv :
    (Instr.tagUnassigned1C 3 1 [0x55]).wf = true ∧
    ({ inSeg prefixH with tidx := 1359, pwr := 4095 } : State).phase = .seg ∧
    ({ inSeg prefixH with tidx := 1359, pwr := 4095 } : State).tidx.toNat ≠
      ({ inSeg prefixH with tidx := 1359, pwr := 4095 } : State).params.maxTlvs := by decide +kernel

theorem witness_SegTableFullRaises :
    ({ inSeg prefixH with tidx := 1360 } : State).phase = .seg ∧
    ({ inSeg prefixH with tidx := 1360 } : State).tidx.toNat =
      ({ inSeg prefixH with tidx := 1360 } : State).params.maxTlvs := by decide +kernel

/-- At the end of the stream, and one byte before it. -/
theorem witness_SegEndsOnlyAtEndOfStream :
    (inSeg prefixH).parserTurn ∧ (inSeg prefixH).phase = .seg ∧ (inSeg prefixH).cursor = (inSeg prefixH).inLen ∧
    after (·.phase) (inSeg prefixH) = some .dispatch ∧
    (inSeg (prefixH ++ [0x07])).cursor ≠ (inSeg (prefixH ++ [0x07])).inLen ∧
    (inSeg (prefixH ++ [0x07])).cursor.toNat ≤ (inSeg (prefixH ++ [0x07])).inLen.toNat ∧
    after (·.phase) (inSeg (prefixH ++ [0x07])) = some .error :=
  ⟨.inl rfl, rfl, by decide +kernel, by decide +kernel, by decide +kernel, by decide +kernel, by decide +kernel⟩

/-- 1 byte left, and 2. -/
theorem witness_SegTruncatedTagHeader :
    (inSeg (prefixH ++ [0x07])).parserTurn ∧ (inSeg (prefixH ++ [0x07])).phase = .seg ∧
    (inSeg (prefixH ++ [0x07])).inLen.toNat = (inSeg (prefixH ++ [0x07])).cursor.toNat + 1 ∧
    (inSeg (prefixH ++ [0x07, 0x00])).inLen.toNat = (inSeg (prefixH ++ [0x07, 0x00])).cursor.toNat + 2 :=
  ⟨.inl rfl, rfl, by decide +kernel, by decide +kernel⟩

/-- Vectors S7 and S6: one byte too long, and the exact fit. -/
theorem witness_SegTagLengthCheck :
    (∀ l ∈ ([0x03, 0x02] : List Byte),
      (inSeg (prefixH ++ [0xc8, l, 0x00, 0x09, 0x09])).phase = .seg ∧
      (inSeg (prefixH ++ [0xc8, l, 0x00, 0x09, 0x09])).cursor.toNat + 3 ≤ 21 ∧
      (inSeg (prefixH ++ [0xc8, l, 0x00, 0x09, 0x09])).inLen.toNat = 21 ∧
      le16 ((inSeg (prefixH ++ [0xc8, l, 0x00, 0x09, 0x09])).ibufByte 17)
        ((inSeg (prefixH ++ [0xc8, l, 0x00, 0x09, 0x09])).ibufByte 18) = l.zeroExtend 16) ∧
    21 < 16 + 3 + 3 ∧ 16 + 3 + 2 ≤ 21 ∧ (inSeg (prefixH ++ [0xc8, 0x03, 0x00, 0x09, 0x09])).parserTurn :=
  ⟨by decide +kernel, by decide +kernel, by decide +kernel, .inl rfl⟩

theorem witness_RegistryTagsAreUnrecognized : (inDispatch 0x17 [0xaa] true).phase = .dispatch := by decide +kernel

theorem witness_UnassignedTagsAreUnrecognized : (inDispatch 0xff [] true).phase = .dispatch := by decide +kernel

/-- The minimum, one byte less with PFE = 0, one byte less with PFE = 1. -/
theorem witness_SyncParamsDispatch :
    (∀ pfe : Bool, (inDispatch 0x04 sync pfe).phase = .dispatch ∧ (inDispatch 0x04 sync pfe).pfe = pfe) ∧
    (inDispatch 0x04 sync true).params.syncScalarLen + 40 ≤ (41 : Half).toNat ∧
    (40 : Half).toNat < (inDispatch 0x04 sync true).params.syncScalarLen + 40 := by decide +kernel

theorem witness_ElectionParamsDispatch :
    (∀ pfe : Bool, (inDispatch 0x05 elec1 pfe).phase = .dispatch ∧ (inDispatch 0x05 elec1 pfe).pfe = pfe) ∧
    21 ≤ (21 : Half).toNat ∧ (20 : Half).toNat < 21 := by decide +kernel

theorem witness_ElectionParamsV2Dispatch :
    (∀ pfe : Bool, (inDispatch 0x18 elec2 pfe).phase = .dispatch ∧ (inDispatch 0x18 elec2 pfe).pfe = pfe) ∧
    40 ≤ (40 : Half).toNat ∧ (39 : Half).toNat < 40 := by decide +kernel

theorem witness_ChannelSequenceDispatch :
    (∀ pfe : Bool, (inDispatch 0x12 chseq pfe).phase = .dispatch ∧ (inDispatch 0x12 chseq pfe).pfe = pfe) ∧
    41 ≤ (41 : Half).toNat ∧ (40 : Half).toNat < 41 := by decide +kernel

theorem witness_DispatchSetsPayloadKind : (inDispatch 0x04 [] false).phase = .dispatch := by decide +kernel

theorem witness_DispatchFinishes :
    ({ inDispatch 0x00 [] false with didx := 1 } : State).parserTurn ∧
    ({ inDispatch 0x00 [] false with didx := 1 } : State).phase = .dispatch ∧
    ({ inDispatch 0x00 [] false with didx := 1 } : State).didx =
      ({ inDispatch 0x00 [] false with didx := 1 } : State).tidx :=
  ⟨.inl rfl, rfl, by decide +kernel⟩

/-- Both layouts, with the type check passed and failed; the outcomes of the other checks are in
`test_classify_type`, `test_classify_payload` and `test_classify_order`. -/
theorem witness_ClassifyReportsFirstFailingCheck :
    (classifying prefixH).parserTurn ∧ (classifying prefixH).phase = .classify ∧
    (classifying prefixH).params.packedTypeLayout = .dot11Type6 ∧ (classifying prefixH).inFtype = 0x34 ∧
    (0x74 : Byte) ≠ 0x34 ∧ (0xD3 : Byte) &&& 0xFC = 0xD0 ∧ (0xD4 : Byte) &&& 0xFC ≠ 0xD0 :=
  ⟨.inl rfl, rfl, rfl, rfl, by decide +kernel, by decide +kernel, by decide +kernel⟩

/-- A payload of exactly 16 bytes. -/
theorem witness_HeaderStepCopiesFields :
    (inHeader prefixH).parserTurn ∧ (inHeader prefixH).phase = .header ∧ 16 ≤ (inHeader prefixH).inLen.toNat ∧
    (inHeader prefixH).inLen.toNat ≤ (inHeader prefixH).params.maxFrameLen ∧ (inHeader prefixH).inLen = 16 :=
  ⟨.inl rfl, rfl, by decide +kernel, by decide +kernel, by decide +kernel⟩

/-- A payload of exactly 15 bytes. -/
theorem witness_HeaderStepTruncated :
    (inHeader (prefixH.take 15)).parserTurn ∧ (inHeader (prefixH.take 15)).phase = .header ∧
    (inHeader (prefixH.take 15)).inLen.toNat < 16 :=
  ⟨.inl rfl, rfl, by decide +kernel⟩

theorem witness_StartCommand :
    (host (.write 32 0x004 0x7) State.reset).schedule = .host (.write 32 0x004 0x7) :: [] ∧
    (host (.write 32 0x004 0x7) State.reset).phase.busy = false ∧ (0x7 : Word).getLsbD 0 = true := by decide +kernel

theorem witness_CtrlWriteWithoutStart :
    (host (.write 32 0x004 0x6) State.reset).schedule = .host (.write 32 0x004 0x6) :: [] ∧
    (host (.write 32 0x004 0x6) State.reset).phase.busy = false ∧ (0x6 : Word).getLsbD 0 = false := by decide +kernel

theorem witness_StatusWriteOneToClear :
    (host (.write 32 0x008 0x4) (inDone 0x00 .unrecognized [])).schedule = .host (.write 32 0x008 0x4) :: [] ∧
    (host (.write 32 0x008 0x4) (inDone 0x00 .unrecognized [])).phase.busy = false := by decide +kernel

/-- Each of the five registers. -/
theorem witness_InputRegisterWrites :
    ∀ n ∈ [0x010, 0x014, 0x018, 0x01C, 0x034],
      (host (.write 32 (BitVec.ofNat 18 n) 0x12345678) State.reset).schedule = .host (.write 32 (BitVec.ofNat 18 n) 0x12345678) :: [] ∧
      (host (.write 32 (BitVec.ofNat 18 n) 0x12345678) State.reset).phase.busy = false := by decide +kernel

/-- A read-only register, the last reserved CSR word, the ends of the PBUF window and of the reserved range. -/
theorem witness_ReadOnlyWritesIgnored :
    (∀ x ∈ [(32, (0x000 : BusAddr)), (32, 0x00C), (32, 0x038), (32, 0x1FC), (32, 0x0FFFC), (32, 0x20000), (16, 0x2FFFE),
        (8, 0x2FFFF), (32, 0x30000), (16, 0x30001), (8, 0x3FFFF)],
      (host (.write x.1 x.2 0xFF) State.reset).schedule = .host (.write x.1 x.2 0xFF) :: [] ∧
      (host (.write x.1 x.2 0xFF) State.reset).phase.busy = false) ∧
    (∀ x ∈ [(32, (0x000 : BusAddr)), (32, 0x00C), (32, 0x038), (32, 0x1FC), (32, 0x0FFFC)],
      x.1 = 32 ∧ x.2.toNat % 4 = 0 ∧ x.2.toNat < 0x10000 ∧
      x.2 ∉ [(0x004 : BusAddr), 0x008, 0x010, 0x014, 0x018, 0x01C, 0x034]) ∧
    (∀ x ∈ [(8, (0x20000 : BusAddr)), (16, 0x20002), (32, 0x20000), (32, 0x2FFFC), (16, 0x2FFFE), (8, 0x2FFFF)],
      0x20000 ≤ x.2.toNat ∧ x.2.toNat < 0x30000 ∧
      (x.1 = 8 ∨ (x.1 = 16 ∧ x.2.toNat % 2 = 0) ∨ (x.1 = 32 ∧ x.2.toNat % 4 = 0))) ∧
    (∀ x ∈ [(32, (0x30000 : BusAddr)), (32, 0x3FFFC)], x.1 = 32 ∧ 0x30000 ≤ x.2.toNat ∧ x.2.toNat % 4 = 0) := by
  decide +kernel

/-- The three widths, at the start and the end of the window. -/
theorem witness_IbufWindowWrite :
    ∀ x ∈ [(8, (0x10000 : BusAddr)), (8, 0x1FFFF), (16, 0x1FFFE), (32, 0x1FFFC), (32, 0x10000)],
      (host (.write x.1 x.2 0xA5) State.reset).schedule = .host (.write x.1 x.2 0xA5) :: [] ∧
      (host (.write x.1 x.2 0xA5) State.reset).phase.busy = false ∧
      0x10000 ≤ x.2.toNat ∧ x.2.toNat < 0x20000 ∧
      (x.1 = 8 ∨ (x.1 = 16 ∧ x.2.toNat % 2 = 0) ∨ (x.1 = 32 ∧ x.2.toNat % 4 = 0)) := by decide +kernel

/-- The first offset beyond MAX_FRAME_LEN in each window, for a read and a write, and a read across it. -/
theorem witness_WindowBeyondMaxFrameLen :
    (∀ n ∈ [0x11000, 0x21000, 0x2FFFC],
      0x10000 ≤ (BitVec.ofNat 18 n).toNat ∧ (BitVec.ofNat 18 n).toNat < 0x30000 ∧ (BitVec.ofNat 18 n).toNat % 4 = 0 ∧
      State.reset.params.maxFrameLen ≤ (BitVec.ofNat 18 n).toNat % 0x10000 + 0 ∧
      (host (.read 32 (BitVec.ofNat 18 n)) State.reset).schedule = .host (.read 32 (BitVec.ofNat 18 n)) :: [] ∧
      (host (.write 32 (BitVec.ofNat 18 n) 1) State.reset).schedule = .host (.write 32 (BitVec.ofNat 18 n) 1) :: [] ∧
      (host (.write 32 (BitVec.ofNat 18 n) 1) State.reset).phase.busy = false) ∧
    (0x10FFE : BusAddr).toNat % 2 = 0 ∧ 4095 ≤ (0x10FFE : BusAddr).toNat % 0x10000 + 1 := by decide +kernel

/-- A legal and an illegal write while BUSY. -/
theorem witness_WriteWhileBusyDropped :
    (host (.write 32 0x034 3) (inSeg prefixH)).phase.busy = true ∧ legalAccess 32 0x034 = true ∧
    (host (.write 8 0x034 3) (inSeg prefixH)).phase.busy = true ∧ legalAccess 8 0x034 = false := by decide +kernel

/-- A narrow register access, a wrong width, misaligned window accesses, and an odd reserved address. -/
theorem witness_IllegalAccessBusError :
    ∀ x ∈ [(8, (0x004 : BusAddr)), (64, 0x004), (32, 0x0FFFE), (16, 0x10001), (32, 0x2FFFE), (16, 0x30001), (0, 0x3FFFF)],
      (host (.read x.1 x.2) State.reset).schedule = .host (.read x.1 x.2) :: [] ∧
      (host (.write x.1 x.2 0) State.reset).schedule = .host (.write x.1 x.2 0) :: [] ∧
      (if x.2.toNat < 0x10000 then ¬ (x.1 = 32 ∧ x.2.toNat % 4 = 0)
       else ¬ (x.1 = 8 ∨ (x.1 = 16 ∧ x.2.toNat % 2 = 0) ∨ (x.1 = 32 ∧ x.2.toNat % 4 = 0))) := by decide +kernel

theorem witness_ReadsHaveNoSideEffect :
    (host (.read 32 0x008) State.reset).schedule = .host (.read 32 0x008) :: [] := by decide +kernel

/-- ID, and the ends of the reserved offsets. -/
theorem witness_ConstantRegisters :
    (∀ x ∈ [(32, (0x000 : BusAddr)), (32, 0x040), (32, 0x0FC), (32, 0x200), (32, 0x0FFFC), (32, 0x30000), (32, 0x3FFFC)],
      (host (.read x.1 x.2) State.reset).schedule = .host (.read x.1 x.2) :: [] ∧ x.1 = 32 ∧ x.2.toNat % 4 = 0) ∧
    (∀ x ∈ [(32, (0x040 : BusAddr)), (32, 0x0FC), (32, 0x200), (32, 0x0FFFC)],
      0x040 ≤ x.2.toNat ∧ x.2.toNat < 0x100 ∨ 0x200 ≤ x.2.toNat ∧ x.2.toNat < 0x10000) ∧
    (∀ x ∈ [(32, (0x30000 : BusAddr)), (32, 0x3FFFC), (8, 0x3FFFF)], 0x30000 ≤ x.2.toNat) ∧
    (host (.read 8 0x3FFFF) State.reset).schedule = .host (.read 8 0x3FFFF) :: [] := by decide +kernel

/-- Each of the seven registers, with the value its clause names. -/
theorem witness_ControlAndInputReads :
    [0x004, 0x008, 0x010, 0x014, 0x018, 0x01C, 0x034].map
        (fun a => answer (host (.read 32 a) { loaded prefixH with ie := true, wdrop := true, entrySel := 7 })) =
      [0x2, 0x8, 16, 0x34, 0xFF002500, 0x7394, 7].map (fun v => some (.data v)) ∧
    [Phase.idle, .classify, .header, .seg, .dispatch, .done, .error].map
        (fun f => answer (host (.read 32 0x008) { loaded prefixH with phase := f })) =
      [0, 1, 1, 1, 1, 2, 3].map (fun v => some (.data v)) ∧
    (∀ x ∈ [(8, (0x10000 : BusAddr)), (16, 0x10002), (32, 0x10FFC), (8, 0x10FFF), (32, 0x1FFFC)],
      (host (.read x.1 x.2) (inSeg prefixH)).schedule = .host (.read x.1 x.2) :: [] ∧
      0x10000 ≤ x.2.toNat ∧ x.2.toNat < 0x20000 ∧
      (x.1 = 8 ∨ (x.1 = 16 ∧ x.2.toNat % 2 = 0) ∨ (x.1 = 32 ∧ x.2.toNat % 4 = 0))) ∧
    (0x10FFF : BusAddr).toNat - 0x10000 + 0 < State.reset.params.maxFrameLen := by decide +kernel

/-- Each of the six registers, with the value its clause names. -/
theorem witness_ResultReads :
    (inDone 0x05 .electionV1 elec1).phase.busy = false ∧
    [0x00C, 0x020, 0x024, 0x028, 0x02C, 0x030].map
        (fun a => answer (host (.read 32 a) { inDone 0x05 .electionV1 elec1 with hdr0 := 0xF217007F, hdr1 := 1 })) =
      [0, 0xF217007F, 1, 0, 0, 1].map (fun v => some (.data v)) ∧
    [ErrCode.clsNotMgmtAction, .clsBssidMismatch, .clsCategoryMismatch, .clsOuiMismatch, .truncatedHeader,
        .truncatedTlv, .truncatedTlvPayload, .outOfBounds, .tlvTableOverflow].map
        (fun e => answer (host (.read 32 0x00C) { loaded [] with phase := .error, errCode := e })) =
      [1, 2, 3, 4, 5, 6, 7, 8, 9].map (fun v => some (.data v)) := by decide +kernel

/-- An entry that is shown, the first one that is not, and a phase that shows none. -/
theorem witness_EntryReads :
    (inDone 0x05 .electionV1 elec1).phase.busy = false ∧
    (inDone 0x05 .electionV1 elec1).entry 0 = { tag := 0x05, len := 21, poff := 0, kind := .electionV1 } ∧
    ((inDone 0x05 .electionV1 elec1).phase = .done ∧
      (inDone 0x05 .electionV1 elec1).entrySel.toNat < (inDone 0x05 .electionV1 elec1).tlvCount.toNat) ∧
    ¬ ((1 : Half).toNat < (inDone 0x05 .electionV1 elec1).tlvCount.toNat) ∧ State.reset.phase.busy = false ∧
    [Kind.none, .sync, .electionV1, .channelSeq, .electionV2, .unrecognized, .truncatedPayload].map
        (fun kind => answer (host (.read 32 0x038) (inDone 0x05 kind [0x55]))) =
      [0x10005, 0x10105, 0x10205, 0x10305, 0x10405, 0x10505, 0x10605].map (fun v => some (.data v)) := by decide +kernel

/-- FIELD[0], FIELD[31], FIELD[32] and FIELD[63] of vector SY1. -/
theorem witness_SyncFieldWindow :
    ∀ k ∈ [0, 31, 32, 63],
      (host (.read 32 (BitVec.ofNat 18 (0x100 + 4 * k))) (inDone 0x04 .sync sync)).schedule =
        .host (.read 32 (BitVec.ofNat 18 (0x100 + 4 * k))) :: [] ∧ k < 64 ∧
      (inDone 0x04 .sync sync).phase = .done ∧
      (inDone 0x04 .sync sync).entrySel.toNat < (inDone 0x04 .sync sync).tlvCount.toNat ∧
      (inDone 0x04 .sync sync).entry 0 = { tag := 0x04, len := 41, poff := 0, kind := .sync } ∧
      (inDone 0x04 .sync sync).params.syncScalarLen + 40 ≤ (41 : Half).toNat := by decide +kernel

theorem witness_ElectionV1FieldWindow :
    (inDone 0x05 .electionV1 elec1).phase = .done ∧
    (inDone 0x05 .electionV1 elec1).entrySel.toNat < (inDone 0x05 .electionV1 elec1).tlvCount.toNat ∧
    (inDone 0x05 .electionV1 elec1).entry 0 = { tag := 0x05, len := 21, poff := 0, kind := .electionV1 } ∧
    [0, 5, 6, 63].map (fun k => answer (host (.read 32 (BitVec.ofNat 18 (0x100 + 4 * k)))
        (inDone 0x05 .electionV1 elec1))) =
      [0x1, 0x80000001, 0, 0].map (fun v => some (.data v)) := by decide +kernel

theorem witness_ElectionV2FieldWindow :
    (inDone 0x18 .electionV2 elec2).phase = .done ∧
    (inDone 0x18 .electionV2 elec2).entrySel.toNat < (inDone 0x18 .electionV2 elec2).tlvCount.toNat ∧
    (inDone 0x18 .electionV2 elec2).entry 0 = { tag := 0x18, len := 40, poff := 0, kind := .electionV2 } ∧
    [0, 6, 7, 63].map (fun k => answer (host (.read 32 (BitVec.ofNat 18 (0x100 + 4 * k)))
        (inDone 0x18 .electionV2 elec2))) =
      [0x1, 0x102, 0, 0].map (fun v => some (.data v)) := by decide +kernel

/-- HC19 and the ends of each clause. -/
theorem witness_ChannelSeqFieldWindow :
    (inDone 0x12 .channelSeq chseq).phase = .done ∧
    (inDone 0x12 .channelSeq chseq).entrySel.toNat < (inDone 0x12 .channelSeq chseq).tlvCount.toNat ∧
    (inDone 0x12 .channelSeq chseq).entry 0 = { tag := 0x12, len := 41, poff := 0, kind := .channelSeq } ∧
    [0, 3, 4, 5, 36, 37, 63].map (fun k => answer (host (.read 32 (BitVec.ofNat 18 (0x100 + 4 * k)))
        (inDone 0x12 .channelSeq chseq))) =
      [3, 1, 0x95, 0x06, 0x51, 0, 0].map (fun v => some (.data v)) := by decide +kernel

/-- FIELD[0], FIELD[63] and the last payload byte of an entry of each kind. -/
theorem witness_NoFieldsWithoutDecoder :
    (∀ kind ∈ [Kind.none, .unrecognized, .truncatedPayload],
      (inDone 0x07 kind [0x55]).phase = .done ∧ (inDone 0x07 kind [0x55]).phase.busy = false ∧
      (inDone 0x07 kind [0x55]).entry 0 = { tag := 0x07, len := 1, poff := 0, kind := kind } ∧
      0 + 0 < (inDone 0x07 kind [0x55]).pwr.toNat ∧ 0 + 0 < (inDone 0x07 kind [0x55]).params.maxFrameLen ∧
      answer (host (.read 32 0x100) (inDone 0x07 kind [0x55])) = some (.data 0) ∧
      answer (host (.read 32 0x1FC) (inDone 0x07 kind [0x55])) = some (.data 0) ∧
      answer (host (.read 8 0x20000) (inDone 0x07 kind [0x55])) = some (.data 0x55)) ∧
    (∀ s ∈ [{ inDone 0x05 .electionV1 elec1 with phase := .idle }, { inDone 0x05 .electionV1 elec1 with phase := .error }],
      s.phase ≠ .done ∧ s.phase.busy = false ∧ answer (host (.read 32 0x100) s) = some (.data 0)) ∧
    ({ inDone 0x05 .electionV1 elec1 with entrySel := 1 } : State).tlvCount.toNat ≤ (1 : Half).toNat := by decide +kernel

/-- The three widths, the last bytes below PWR. -/
theorem witness_PbufWindowRead :
    (inDone 0x18 .electionV2 elec2).phase = .done ∧
    (∀ x ∈ [(8, (0x20027 : BusAddr)), (16, 0x20026), (32, 0x20024)],
      0x20000 ≤ x.2.toNat ∧ x.2.toNat < 0x30000 ∧
      (x.1 = 8 ∨ (x.1 = 16 ∧ x.2.toNat % 2 = 0) ∨ (x.1 = 32 ∧ x.2.toNat % 4 = 0)) ∧
      x.2.toNat - 0x20000 + x.1 / 8 ≤ (inDone 0x18 .electionV2 elec2).pwr.toNat) ∧
    (inDone 0x18 .electionV2 elec2).pwr.toNat ≤ (inDone 0x18 .electionV2 elec2).params.maxFrameLen := by decide +kernel

theorem witness_ResetFromAnyState :
    ({ inSeg prefixH with schedule := [.rst] } : State).schedule = .rst :: [] := by decide +kernel

theorem witness_ParametersAreConstant :
    (after (·.params) (inSeg prefixH)).isSome = true := by decide +kernel

/-- Every kind of turn answers a next state: the parser's, the START of a host, `rst`. -/
theorem witness_PhaseGraph :
    (classifying prefixH).parserTurn ∧ after (·.phase) (classifying prefixH) = some .header ∧
    after (·.phase) (host (.write 32 0x004 1) State.reset) = some .classify ∧
    after (·.phase) (host (.write 32 0x004 2) State.reset) = some .idle ∧
    after (·.phase) { inSeg prefixH with schedule := [.rst] } = some .idle :=
  ⟨.inl rfl, by decide +kernel, by decide +kernel, by decide +kernel, by decide +kernel⟩

/-- Each flag rises in one step: IRQ_PEND at the finish and at a raise, WDROP, PERR. -/
theorem witness_FlagsAreSetOnlyByTheirEvents :
    after (fun t => (t.phase, t.irqPend)) { inDispatch 0x00 [] false with didx := 1 } = some (.done, true) ∧
    after (fun t => (t.phase, t.irqPend)) (classifying []) = some (.error, true) ∧
    after (·.wdrop) (host (.write 32 0x034 3) (inSeg prefixH)) = some true ∧
    after (·.perr) (inDispatch 0x05 [] false) = some true ∧
    (inDispatch 0x05 [] false).irqPend = false ∧ (inDispatch 0x05 [] false).perr = false ∧
    (inSeg prefixH).wdrop = false := by decide +kernel

/-- DONE and ERROR, a host write to IBUF, a CTRL write without START and a parser turn. -/
theorem witness_ResultsLastUntilStart :
    (inDone 0x05 .electionV1 elec1).phase = .done ∧ (State.reset.raise .truncatedTlv 0).phase = .error ∧
    (after (·.phase) (host (.write 32 0x10000 1) (inDone 0x05 .electionV1 elec1))) = some .done ∧
    (after (·.phase) (host (.write 32 0x004 2) (State.reset.raise .truncatedTlv 0))) = some .error ∧
    (2 : Word).getLsbD 0 = false ∧
    (host (.write 32 0x10000 1) (inDone 0x05 .electionV1 elec1)).schedule.head? ≠ some .rst ∧
    after (·.phase) (inDone 0x05 .electionV1 elec1) = some .done := by decide +kernel

/-- A payload with one TLV, in SEG at the stream start, meets the invariants, and its step answers a state. -/
theorem witness_StepKeepsInvariant :
    Inv (inSeg (prefixH ++ [0x07, 0x01, 0x00, 0x55])) ∧ CopyInv (inSeg (prefixH ++ [0x07, 0x01, 0x00, 0x55])) ∧
    after (fun t => (t.phase, t.cursor, t.tidx)) (inSeg (prefixH ++ [0x07, 0x01, 0x00, 0x55])) =
      some (.seg, 20, 1) := by
  refine ⟨⟨by decide +kernel, ⟨by decide +kernel, by decide +kernel, by decide +kernel⟩, rfl,
    ⟨by decide +kernel, by decide +kernel⟩,
    ⟨by decide +kernel, by decide +kernel, by decide +kernel, by decide +kernel, rfl⟩,
    fun _ => ⟨by decide +kernel, by decide +kernel, fun i hi => absurd hi (Nat.not_lt_zero i)⟩,
    ⟨fun _ => ⟨fun i hi => absurd hi (Nat.not_lt_zero i), fun i _ hi => absurd hi (Nat.not_lt_zero i), by decide +kernel⟩,
      fun h => by simp [inSeg, Phase.tabled] at h, fun h => by simp [inSeg] at h⟩,
    ⟨fun _ => rfl, fun h => by simp [inSeg] at h⟩⟩,
    fun _ i hi => absurd hi (Nat.not_lt_zero i), by decide +kernel⟩

theorem witness_StepKeepsPayloadCopies :
    Inv (inSeg (prefixH ++ [0x07, 0x01, 0x00, 0x55])) ∧ CopyInv (inSeg (prefixH ++ [0x07, 0x01, 0x00, 0x55])) ∧
    (after (·.pwr) (inSeg (prefixH ++ [0x07, 0x01, 0x00, 0x55]))) = some 1 :=
  ⟨witness_StepKeepsInvariant.1, witness_StepKeepsInvariant.2.1, by decide +kernel⟩

/-- HEADER with a good prefix, and DONE with its HDR0. -/
theorem witness_StepKeepsAcceptedHeader :
    HeaderInv (inHeader prefixH) ∧ after (·.hdr0) (inHeader prefixH) = some 0xF217007F ∧
    HeaderInv { inDone 0x00 .unrecognized [] with hdr0 := 0xF217007F } :=
  ⟨⟨fun _ => by decide +kernel, fun h => by simp [inHeader, Phase.tabled] at h⟩, by decide +kernel,
    ⟨fun h => by simp [inDone] at h, fun _ => rfl⟩⟩

/-- Two states that differ in all four fields the parser ignores. -/
theorem witness_ParserStepIgnoresHostRecord :
    (inSeg prefixH).parserTurn ∧
    ({ inSeg prefixH with wdrop := true, reads := 3, schedule := [.parser], responses := [.ack] } : State).parserTurn ∧
    (inSeg prefixH).parserView =
      ({ inSeg prefixH with wdrop := true, reads := 3, schedule := [.parser], responses := [.ack] } : State).parserView :=
  ⟨.inl rfl, .inr rfl, rfl⟩

/-- Two steps while BUSY, a dropped write and a parser turn, against the undisturbed state. -/
theorem witness_InterleavedDecodeIsUndisturbed :
    (host (.write 32 0x034 3) (classifying prefixH)).parserView = (classifying prefixH).parserView ∧
    (classifying prefixH).schedule = [] ∧ .rst ∉ (host (.write 32 0x034 3) (classifying prefixH)).schedule ∧
    (host (.write 32 0x034 3) (classifying prefixH)).phase.busy = true ∧
    after (fun t => (t.phase.busy, t.wdrop, t.schedule)) (host (.write 32 0x034 3) (classifying prefixH)) =
      some (true, true, []) :=
  ⟨rfl, rfl, by decide +kernel, rfl, by decide +kernel⟩

/-- Started states, one whose decode ends in DONE (vector S2) and one whose decode ends in ERROR (vector U6b). -/
theorem witness_DecodeRefinesReference :
    (classifying (prefixH ++ [0x07, 0x00, 0x00])).params.valid ∧
    (classifying (prefixH ++ [0x07, 0x00, 0x00])).started ∧
    (classifying (prefixH ++ [0x07, 0x00, 0x00])).schedule = [] ∧
    (referenceDecode (classifying (prefixH ++ [0x07, 0x00, 0x00]))).map (fun f => f.entries.length) = .ok 1 ∧
    ({ classifying (prefixH ++ [0x04, 0x00, 0x00]) with pfe := true } : State).started ∧
    referenceDecode { classifying (prefixH ++ [0x04, 0x00, 0x00]) with pfe := true } =
      .error (.truncatedTlvPayload, 4) :=
  ⟨by decide +kernel, ⟨rfl, rfl, rfl, rfl, rfl, rfl, ⟨rfl, rfl, rfl, rfl, rfl⟩, rfl, rfl, rfl, rfl⟩, rfl, by decide +kernel,
    ⟨rfl, rfl, rfl, rfl, rfl, rfl, ⟨rfl, rfl, rfl, rfl, rfl⟩, rfl, rfl, rfl, rfl⟩, by decide +kernel⟩


end Sys2Proof.Tests
end

-- ==== O48: the interrupt output (R56) ====
section

namespace Sys2Proof.Machine

/-- R56: the output is the conjunction of CTRL.IE and STATUS.IRQ_PEND. -/
@[simp] theorem State.irq_eq_true_iff (s : State) : s.irq = true ↔ s.ie = true ∧ s.irqPend = true := by
  simp only [State.irq, Bool.and_eq_true]

/-- Masking: with CTRL.IE at 0 the output is 0, whatever is pending. -/
theorem State.irq_eq_false_of_ie {s : State} (hie : s.ie = false) : s.irq = false :=
  Bool.eq_false_iff.mpr fun hirq => by
    obtain ⟨hset, -⟩ := s.irq_eq_true_iff.mp hirq
    exact absurd hset (by simp [hie])

/-- Reset puts CTRL.IE at 0 (R382). -/
@[simp] theorem State.reset_ie : State.reset.ie = false := rfl

/-- Settles O48: the law of the output, and after reset the output is masked by CTRL.IE. -/
theorem interruptOutput : Obligations.InterruptOutput :=
  ⟨State.irq_eq_true_iff, State.irq_eq_false_of_ie State.reset_ie⟩

end Sys2Proof.Machine
end

-- ==== O29, O30: the commands of a CTRL and of a STATUS write (R163, R164) ====
section

namespace Sys2Proof.Machine

/-! Register writes as steps -/

/-- An aligned 32-bit write of the CSR space while not BUSY, as a step: the register its address selects is
written and the host gets an acknowledgement (R87, R165). -/
theorem step_writeCsr {s : State} {a : BusAddr} {d : Word} {later : List Input}
    (h : s.schedule = .host (.write 32 a d) :: later) (hb : s.phase.busy = false) (h4 : a.toNat % 4 = 0)
    (hc : a.toNat < 0x10000) :
    step s = .next (({ s with schedule := later }.writeCsr d (csrOf a.toNat)).respond .ack) := by
  have hoff : offsetOf a = a.toNat := Nat.mod_eq_of_lt hc
  rw [step_write h hb (legalAccess_word a h4), State.writeData, spaceOf_csr hc, hoff]

/-- A write of CTRL while not BUSY, as a step (R162, R163). -/
theorem step_writeCtrl {s : State} {d : Word} {later : List Input}
    (h : s.schedule = .host (.write 32 0x004 d) :: later) (hb : s.phase.busy = false) :
    step s = .next (({ s with schedule := later }.writeCtrl d).respond .ack) :=
  step_writeCsr h hb (by decide) (by decide)

/-- A write of STATUS while not BUSY, as a step (R164). -/
theorem step_writeStatus {s : State} {d : Word} {later : List Input}
    (h : s.schedule = .host (.write 32 0x008 d) :: later) (hb : s.phase.busy = false) :
    step s = .next (({ s with schedule := later }.writeStatus d).respond .ack) :=
  step_writeCsr h hb (by decide) (by decide)

/-! What the two commands do to the state -/

/-- CTRL without START: the two enables take bits 1 and 2 (R163). -/
theorem State.writeCtrl_noStart {d : Word} (h : d.getLsbD 0 = false) (s : State) :
    s.writeCtrl d = { s with ie := d.getLsbD 1, pfe := d.getLsbD 2 } :=
  if_neg (Bool.eq_false_iff.mp h)

/-- STATUS: write one to clear, bit 2 for IRQ_PEND and bit 3 for WDROP (R164). -/
theorem State.writeStatus_eq (s : State) (d : Word) :
    s.writeStatus d = { s with
      irqPend := if d.getLsbD 2 then false else s.irqPend
      wdrop := if d.getLsbD 3 then false else s.wdrop } := by
  simp only [State.writeStatus, Bool.if_false_left, Bool.decide_eq_true, Bool.and_comm]

/-! The obligations -/

/-- Settles O29: the write is the CTRL command without START, and the output is read off the new IE. -/
theorem ctrlWriteWithoutStart : Obligations.CtrlWriteWithoutStart := by
  intro s d later hs hb hstart
  refine ⟨_, ?_, rfl, rfl⟩
  rw [step_writeCtrl hs hb, State.writeCtrl_noStart hstart]
  rfl

/-- Settles O30: the write is the STATUS command, which is write one to clear of two flags. -/
theorem statusWriteOneToClear : Obligations.StatusWriteOneToClear := by
  intro s d later hs hb
  rw [step_writeStatus hs hb, State.writeStatus_eq]
  rfl

end Sys2Proof.Machine
end

-- ==== O12, O14, O15, O16: the TLV stream in SEG (R216 to R219) ====
section

namespace Sys2Proof.Machine

/-! Accepting a TLV with room in the table -/

section Accept

variable {s : State} (room : s.tidx.toNat ≠ s.params.maxTlvs) (tag : Byte) (len : Half)
include room

/-- The table after a TLV is accepted: entry TIDX is the TLV with POFF = PWR and KIND NONE (R219). -/
theorem State.acceptTlv_entry (value : List Byte) (j : Nat) :
    (s.acceptTlv tag len value).entry j =
      if j = s.tidx.toNat then { tag := tag, len := len, poff := s.pwr, kind := .none } else s.entry j :=
  State.entry_set (by rw [State.acceptTlv_room room]) (by rw [State.acceptTlv_room room]) j

/-- PBUF after a TLV is accepted: the value stands from PWR, inside PBUF (R222). -/
theorem State.acceptTlv_pbufByte (value : List Byte) (a : Nat) :
    (s.acceptTlv tag len value).pbufByte a =
      if s.pwr.toNat ≤ a ∧ a < s.pwr.toNat + value.length ∧ a < s.params.maxFrameLen then
        value.getD (a - s.pwr.toNat) 0
      else s.pbufByte a :=
  State.pbufByte_write (by rw [State.acceptTlv_room room]) (by rw [State.acceptTlv_room room]) a

/-- The copied bytes, one by one. -/
theorem State.acceptTlv_copied {value : List Byte} {k : Nat} (hk : k < value.length)
    (hin : s.pwr.toNat + k < s.params.maxFrameLen) :
    (s.acceptTlv tag len value).pbufByte (s.pwr.toNat + k) = value[k] := by
  rw [State.acceptTlv_pbufByte room, if_pos (by omega), Nat.add_sub_cancel_left,
    List.getD_eq_getElem _ _ hk]

/-- The bytes of PBUF outside the copy. -/
theorem State.acceptTlv_notCopied {value : List Byte} {a : Nat}
    (hout : ¬ (s.pwr.toNat ≤ a ∧ a < s.pwr.toNat + value.length)) :
    (s.acceptTlv tag len value).pbufByte a = s.pbufByte a := by
  rw [State.acceptTlv_pbufByte room, if_neg (by omega)]

/-- TIDX, PWR and the cursor advance by 1, L and 3 + L (R219, R220, R222). -/
theorem State.acceptTlv_advance {value : List Byte} {t : State} (ht : s.acceptTlv tag len value = t) :
    t.tidx = s.tidx + 1 ∧ t.pwr = s.pwr + len ∧ t.cursor = s.cursor + 3 + len := by
  rw [← ht, State.acceptTlv_room room]
  exact ⟨rfl, rfl, rfl⟩

/-- What accepting a TLV leaves alone besides the table and PBUF. -/
theorem State.acceptTlv_frame {value : List Byte} {t : State} (ht : s.acceptTlv tag len value = t) :
    t.phase = s.phase ∧ t.didx = s.didx ∧ sameInputs s t ∧ sameResults s t ∧ sameFlags s t ∧ sameErr s t ∧
      sameIbuf s t ∧ sameEnvironment s t ∧ t.schedule = s.schedule := by
  rw [← ht, State.acceptTlv_room room]
  exact ⟨rfl, rfl, ⟨rfl, rfl, rfl, rfl, rfl, rfl, rfl, rfl⟩, ⟨rfl, rfl, rfl, rfl, rfl⟩, ⟨rfl, rfl, rfl⟩,
    ⟨rfl, rfl⟩, fun _ => rfl, ⟨rfl, rfl, rfl⟩, rfl⟩

end Accept

/-! The error entry -/

/-- `raise` is the error entry of R166. -/
theorem State.raised_raise (s : State) (e : ErrCode) (tag : Byte) : raised e tag s (s.raise e tag) :=
  ⟨rfl, rfl, rfl, ⟨rfl, rfl, rfl, rfl, rfl⟩, rfl, rfl, rfl, ⟨rfl, rfl, rfl, rfl, rfl, rfl, rfl, rfl⟩,
    fun _ => rfl, fun _ => rfl, ⟨rfl, rfl, rfl, rfl⟩, ⟨rfl, rfl, rfl⟩⟩

/-! What the fetch at the cursor answers -/

/-- Fewer than the three bytes of a tag header are left (R217). -/
theorem fetchTlv_noHeader {s : State} (hshort : s.inLen.toNat < s.cursor.toNat + 3) :
    fetchTlv s = .error .truncatedTlv := by
  rw [fetchTlv, if_pos hshort]

/-- The tag length is larger than the bytes left after the header (R218). -/
theorem fetchTlv_tooLong {s : State} (hmax : s.inLen.toNat ≤ s.params.maxFrameLen) {L : Half}
    (hL : L = le16 (s.ibufByte (s.cursor.toNat + 1)) (s.ibufByte (s.cursor.toNat + 2)))
    (hlong : s.inLen.toNat < s.cursor.toNat + 3 + L.toNat) : fetchTlv s = .error .truncatedTlv := by
  obtain ⟨-, hf⟩ | ⟨-, hover, -⟩ | ⟨-, -, -, hf⟩ | ⟨hfits, -, -⟩ := fetchTlv_cases s hL.symm
  · exact hf
  · omega
  · exact hf
  · omega

/-- The tag length fits the bytes left after the header, the exact fit included (R218). -/
theorem fetchTlv_fits {s : State} (hmax : s.inLen.toNat ≤ s.params.maxFrameLen) {L : Half}
    (hL : L = le16 (s.ibufByte (s.cursor.toNat + 1)) (s.ibufByte (s.cursor.toNat + 2)))
    (hfits : s.cursor.toNat + 3 + L.toNat ≤ s.inLen.toNat) :
    fetchTlv s = .ok (instrOf (s.ibufByte s.cursor.toNat) L
      ((List.range L.toNat).map (fun k => s.ibufByte (s.cursor.toNat + 3 + k)))) := by
  obtain ⟨hshort, -⟩ | ⟨-, hover, -⟩ | ⟨-, -, hlong, -⟩ | ⟨-, -, hf⟩ := fetchTlv_cases s hL.symm
  · omega
  · omega
  · omega
  · exact hf

/-- A fetched TLV lies inside the payload: no other TLV passes R217 and R218. -/
theorem fetchTlv_inside {s : State} {i : Instr} (hf : fetchTlv s = .ok i) :
    s.cursor.toNat + 3 + i.len.toNat ≤ s.inLen.toNat := by
  obtain ⟨-, he⟩ | ⟨-, -, he⟩ | ⟨-, -, -, he⟩ | ⟨hfits, -, hok⟩ := fetchTlv_cases s rfl
  · cases hf.symm.trans he
  · cases hf.symm.trans he
  · cases hf.symm.trans he
  · cases hf.symm.trans hok
    rwa [instrOf_len]

/-! The parser's turn in SEG -/

/-- A SEG step at the end of the stream (R216). -/
theorem segStep_end {s : State} (hend : s.cursor = s.inLen) : segStep s = .next { s with phase := .dispatch } := by
  rw [segStep, if_pos hend]

/-- A parser turn in SEG is the SEG step with the turn taken off the schedule (R161). -/
theorem step_seg {s : State} (turn : s.parserTurn) (hseg : s.phase = .seg) : step s = segStep s.popped := by
  rw [step_parser turn, parserStep_seg (s := s.popped) hseg]

/-- At the end of the stream, the step moves to DISPATCH (R216). -/
theorem step_seg_end {s : State} (turn : s.parserTurn) (hseg : s.phase = .seg) (hend : s.cursor = s.inLen) :
    step s = .next { s.popped with phase := .dispatch } := by
  rw [step_seg turn hseg, segStep_end (s := s.popped) hend]

/-- With a TLV at the cursor, the step runs it (R215). -/
theorem step_seg_fetched {s : State} (turn : s.parserTurn) (hseg : s.phase = .seg) (hne : s.cursor ≠ s.inLen)
    {i : Instr} (hf : fetchTlv s = .ok i) : step s = exec i s.popped := by
  rw [step_seg turn hseg, segStep_fetched (s := s.popped) hne hf]

/-- With no whole TLV at the cursor, the step raises (R217, R218). -/
theorem step_seg_failed {s : State} (turn : s.parserTurn) (hseg : s.phase = .seg) (hne : s.cursor ≠ s.inLen)
    {e : ErrCode} (hf : fetchTlv s = .error e) : step s = .next (s.popped.raise e 0) := by
  rw [step_seg turn hseg, segStep_failed (s := s.popped) hne hf]

/-- What a failed fetch leaves: the error entry, the table as it was, and the turn gone. -/
theorem step_seg_failed_raised {s : State} (turn : s.parserTurn) (hseg : s.phase = .seg)
    (hne : s.cursor ≠ s.inLen) {e : ErrCode} (hf : fetchTlv s = .error e) :
    ∃ t, step s = .next t ∧ raised e 0 s t ∧ sameTable s t ∧ t.schedule = s.schedule.tail :=
  ⟨_, step_seg_failed turn hseg hne hf, s.popped.raised_raise e 0, fun _ => rfl, rfl⟩

/-- What a parser turn in SEG can do: end the stream, raise (no whole TLV at the
cursor, or no room in the table), or record the TLV at the cursor. -/
theorem step_seg_cases {s t : State} (turn : s.parserTurn) (hseg : s.phase = .seg) (h : step s = .next t) :
    (s.cursor = s.inLen ∧ t = { s.popped with phase := .dispatch }) ∨
    (s.cursor ≠ s.inLen ∧ ∃ e, t = s.popped.raise e 0) ∨
    (s.cursor ≠ s.inLen ∧ s.tidx.toNat ≠ s.params.maxTlvs ∧
      ∃ i, fetchTlv s = .ok i ∧ t = s.popped.acceptTlv i.tag i.len i.value) := by
  by_cases hend : s.cursor = s.inLen
  · rw [step_seg_end turn hseg hend] at h
    exact .inl ⟨hend, (Host.Outcome.next.inj h).symm⟩
  cases hf : fetchTlv s with
  | error e =>
    rw [step_seg_failed turn hseg hend hf] at h
    exact .inr (.inl ⟨hend, e, (Host.Outcome.next.inj h).symm⟩)
  | ok i =>
    rw [step_seg_fetched turn hseg hend hf, exec_seg (s := s.popped) hseg] at h
    have ht := (Host.Outcome.next.inj h).symm
    by_cases hfull : s.tidx.toNat = s.params.maxTlvs
    · rw [State.acceptTlv_full (s := s.popped) hfull] at ht
      exact .inr (.inl ⟨hend, _, ht⟩)
    · exact .inr (.inr ⟨hend, hfull, i, rfl, ht⟩)

/-- Recording the TLV at the cursor keeps the cursor inside the payload: the 16-bit sum does not wrap (R216). -/
theorem State.acceptTlv_cursor_le {s : State} {i : Instr} (hf : fetchTlv s = .ok i)
    (room : s.tidx.toNat ≠ s.params.maxTlvs) :
    (s.acceptTlv i.tag i.len i.value).cursor.toNat ≤ s.inLen.toNat := by
  obtain ⟨-, -, hcursor⟩ := State.acceptTlv_advance room i.tag i.len rfl
  have hin := fetchTlv_inside hf
  rw [hcursor]
  bv_omega

/-! The obligations -/

/-- Settles O12: `exec` in SEG is the acceptance of the TLV, whose value has L bytes because it is well
formed. -/
theorem segRecordsTlv : Obligations.SegRecordsTlv := by
  intro i s hwf hseg room
  have hlen : i.value.length = i.len.toNat := beq_iff_eq.mp hwf
  obtain ⟨htidx, hpwr, hcursor⟩ := State.acceptTlv_advance room i.tag i.len rfl
  obtain ⟨hphase, hdidx, hframe⟩ := State.acceptTlv_frame room i.tag i.len rfl
  refine ⟨_, exec_seg hseg i, hphase.trans hseg, ?entry, ?otherEntries, ?copied, ?notCopied, htidx, hpwr,
    hcursor, hdidx, hframe⟩
  case entry => rw [State.acceptTlv_entry room, if_pos rfl]
  case otherEntries =>
    intro j hj
    rw [State.acceptTlv_entry room, if_neg hj]
  case copied =>
    intro k hk hin
    rw [← hlen] at hk
    rw [State.acceptTlv_copied room _ _ hk hin, List.getElem?_eq_getElem hk]
  case notCopied =>
    intro a hout
    rw [← hlen] at hout
    exact State.acceptTlv_notCopied room _ _ hout

/-- Settles O14, by the three things a parser turn in SEG can do. -/
theorem segEndsOnlyAtEndOfStream : Obligations.SegEndsOnlyAtEndOfStream := by
  intro s turn hseg
  refine ⟨step_seg_end turn hseg, fun t h => ?exits, fun t h hle => ?bounded⟩
  case exits =>
    obtain ⟨hend, rfl⟩ | ⟨-, e, rfl⟩ | ⟨-, room, i, -, rfl⟩ := step_seg_cases turn hseg h
    · exact .inr (.inr ⟨rfl, hend⟩)
    · exact .inr (.inl rfl)
    · obtain ⟨hphase, -⟩ := State.acceptTlv_frame (s := s.popped) room i.tag i.len rfl
      exact .inl (hphase.trans hseg)
  case bounded =>
    obtain ⟨-, rfl⟩ | ⟨-, e, rfl⟩ | ⟨-, room, i, hf, rfl⟩ := step_seg_cases turn hseg h
    · exact hle
    · exact hle
    · obtain ⟨-, -, ⟨-, -, -, hinLen, -⟩, -⟩ := State.acceptTlv_frame (s := s.popped) room i.tag i.len rfl
      rw [hinLen]
      exact State.acceptTlv_cursor_le (s := s.popped) hf room

/-- Settles O15: with 1 or 2 bytes left the stream has not ended and the fetch finds no tag header. -/
theorem segTruncatedTagHeader : Obligations.SegTruncatedTagHeader := by
  intro s turn hseg hleft
  have hne : s.cursor ≠ s.inLen := by bv_omega
  exact step_seg_failed_raised turn hseg hne (fetchTlv_noHeader (by omega))

/-- Settles O16: the two answers of the fetch when a whole tag header stands at the cursor. -/
theorem segTagLengthCheck : Obligations.SegTagLengthCheck := by
  intro s turn hseg hhead hmax L hL
  have hne : s.cursor ≠ s.inLen := by bv_omega
  exact ⟨fun hlong => step_seg_failed_raised turn hseg hne (fetchTlv_tooLong hmax hL hlong),
    fun hfits => step_seg_fetched turn hseg hne (fetchTlv_fits hmax hL hfits)⟩

end Sys2Proof.Machine
end

-- ==== O42: the channel list of a SYNC entry in the FIELD window (R292) ====
section

namespace Sys2Proof.Machine

/-! Reading a field of a shown entry -/

/-- In DONE below TLV_COUNT the entry ENTRY_SEL names is shown (R47, R48, R54). -/
theorem State.selected?_shown {s : State} (hdone : s.phase = .done)
    (hsel : s.entrySel.toNat < s.tlvCount.toNat) : s.selected? = some (s.entry s.entrySel.toNat) :=
  if_pos ⟨hdone, hsel⟩

/-- A read of FIELD[k] with an entry shown, as a step (R54). -/
theorem step_readField_shown {s : State} {k : Nat} {later : List Input}
    (h : s.schedule = .host (.read 32 (BitVec.ofNat 18 (0x100 + 4 * k))) :: later) (hk : k < 64)
    (hdone : s.phase = .done) (hsel : s.entrySel.toNat < s.tlvCount.toNat) :
    ∃ t, step s = .next t ∧
      t.responses = .data (s.fieldOf (s.entry s.entrySel.toNat) k) :: s.responses := by
  obtain ⟨t, ht, hr⟩ := step_readField h hk (by rw [hdone]; rfl)
  rw [State.selected?_shown hdone hsel] at hr
  exact ⟨t, ht, hr⟩

/-! The bytes of a field -/

/-- The raw bytes of a field that lies inside a payload copy, read from PBUF (R135, R222). -/
theorem FieldSpec.raw_payloadOf {f : FieldSpec} {e : TlvEntry} (h : f.offset + f.width ≤ e.len.toNat)
    (s : State) :
    f.raw (s.payloadOf e) = (List.range f.width).map (fun i => s.pbufByte (e.poff.toNat + (f.offset + i))) := by
  refine List.ext_getElem ?_ fun i _ _ => ?_
  · simp only [FieldSpec.raw, List.length_take, List.length_drop, State.payloadOf_length, List.length_map,
      List.length_range]
    omega
  · simp only [FieldSpec.raw, State.payloadOf, List.getElem_take, List.getElem_drop, List.getElem_map,
      List.getElem_range]

/-- One byte as a 32-bit word, zero-extended (R135). -/
theorem le_singleton_word (b : Byte) : BitVec.ofNat 32 (le [b]) = 0#24 ++ b := by
  have := b.isLt
  apply BitVec.eq_of_toNat_eq
  rw [toNat_append_eq]
  simp only [le_cons, le_nil, BitVec.toNat_ofNat]
  omega

/-- A scalar field of one byte is that byte of the payload copy, zero-extended (R135). -/
theorem FieldSpec.value_payloadOf_byte {f : FieldSpec} {e : TlvEntry} (hw : f.width = 1)
    (h : f.offset < e.len.toNat) (s : State) :
    f.value (s.payloadOf e) = 0#24 ++ s.pbufByte (e.poff.toNat + f.offset) := by
  rw [FieldSpec.value, FieldSpec.raw_payloadOf (by omega), hw]
  exact le_singleton_word _

/-! The scalar fields of the SYNC format -/

/-- A list of pairs, flattened: the pair `l[i]` stands at indices `2 * i` and `2 * i + 1`. -/
theorem getElem?_flatMap_pair {α β : Type} (f g : α → β) (l : List α) (i : Nat) :
    (l.flatMap fun x => [f x, g x])[2 * i]? = l[i]?.map f ∧
    (l.flatMap fun x => [f x, g x])[2 * i + 1]? = l[i]?.map g := by
  induction l generalizing i with
  | nil => exact ⟨rfl, rfl⟩
  | cons x l ih =>
    cases i with
    | zero => exact ⟨rfl, rfl⟩
    | succ i => exact ih i

/-- Flag of channel entry `j` (R129). -/
def syncFlagSpec (scalarLen j : Nat) : FieldSpec := ⟨.chanFlag j, scalarLen + 6 + 2 * j, 1, true⟩

/-- Channel number of channel entry `j` (R129). -/
def syncNumberSpec (scalarLen j : Nat) : FieldSpec := ⟨.chanNumber j, scalarLen + 7 + 2 * j, 1, true⟩

/-- The FIELD window of the SYNC format shows the channel list and nothing else (R292). -/
theorem scalarFields_sync (p : Params) :
    scalarFields p .sync =
      (List.range 16).flatMap fun j => [syncFlagSpec p.syncScalarLen j, syncNumberSpec p.syncScalarLen j] := rfl

/-- The even FIELDs of the SYNC format are the flags (R292). -/
theorem scalarFields_sync_flag (p : Params) {j : Nat} (hj : j < 16) :
    (scalarFields p .sync)[2 * j]? = some (syncFlagSpec p.syncScalarLen j) := by
  obtain ⟨hflag, -⟩ :=
    getElem?_flatMap_pair (syncFlagSpec p.syncScalarLen) (syncNumberSpec p.syncScalarLen) (List.range 16) j
  rw [scalarFields_sync, hflag, List.getElem?_range hj, Option.map_some]

/-- The odd FIELDs of the SYNC format are the channel numbers (R292). -/
theorem scalarFields_sync_number (p : Params) {j : Nat} (hj : j < 16) :
    (scalarFields p .sync)[2 * j + 1]? = some (syncNumberSpec p.syncScalarLen j) := by
  obtain ⟨-, hnumber⟩ :=
    getElem?_flatMap_pair (syncFlagSpec p.syncScalarLen) (syncNumberSpec p.syncScalarLen) (List.range 16) j
  rw [scalarFields_sync, hnumber, List.getElem?_range hj, Option.map_some]

/-- The channel list has 16 entries of two bytes (R292). -/
theorem scalarFields_sync_length (p : Params) : (scalarFields p .sync).length = 32 := rfl

/-! FIELD[k] of an entry -/

/-- FIELD[k] of an entry with a decoder, where its format has a scalar field `k` (R54). -/
theorem State.fieldOf_scalar {s : State} {e : TlvEntry} {f : Format} {x : FieldSpec} {k : Nat}
    (hf : formatOf? e.kind = some f) (hx : (scalarFields s.params f)[k]? = some x) :
    s.fieldOf e k = x.value (s.payloadOf e) := by
  simp only [State.fieldOf, hf, scalarValue, hx]

/-- FIELD[k] of an entry with a decoder is 0 at or beyond the scalar-field count of its format (R54). -/
theorem State.fieldOf_beyond {s : State} {e : TlvEntry} {f : Format} {k : Nat}
    (hf : formatOf? e.kind = some f) (hk : (scalarFields s.params f).length ≤ k) : s.fieldOf e k = 0 := by
  simp only [State.fieldOf, hf, scalarValue, List.getElem?_eq_none hk]

/-! The obligation -/

/-- Settles O42: the FIELD window of the SYNC format is its channel list, flag and number in turn, and each is
one byte that the minimum length puts inside the payload copy. -/
theorem syncFieldWindow : Obligations.SyncFieldWindow := by
  intro s k later e b hs hk hdone hsel he hkind hlen hb
  subst he
  have hf : formatOf? (s.entry s.entrySel.toNat).kind = some .sync := by rw [hkind]; rfl
  obtain ⟨t, ht, hr⟩ := step_readField_shown hs hk hdone hsel
  refine ⟨t, _, ht, hr, ?flag, ?number, fun h32 => ?beyond⟩
  case flag =>
    rintro j hj rfl
    rw [State.fieldOf_scalar hf (scalarFields_sync_flag _ hj), hb]
    exact FieldSpec.value_payloadOf_byte rfl (by simp only [syncFlagSpec]; omega) s
  case number =>
    rintro j hj rfl
    rw [State.fieldOf_scalar hf (scalarFields_sync_number _ hj), hb]
    exact FieldSpec.value_payloadOf_byte rfl (by simp only [syncNumberSpec]; omega) s
  case beyond => exact State.fieldOf_beyond hf (by rwa [scalarFields_sync_length])

end Sys2Proof.Machine
end

-- ==== O1 to O6: the encoding of a TLV and of the payload formats (R125 to R137) ====
section

namespace Sys2Proof

/-! The decoder and the encoder -/

/-- An instruction is the one its tag, length and value denote, row by row (R136, R137). -/
theorem instrOf_self (i : Instr) : instrOf i.tag i.len i.value = i := by
  cases i with
  | tagSsthRequest len value => exact Laws.InstrOfTag.tagSsthRequest len value
  | tagServiceRequest len value => exact Laws.InstrOfTag.tagServiceRequest len value
  | tagServiceResponse len value => exact Laws.InstrOfTag.tagServiceResponse len value
  | tagUnknown3 len value => exact Laws.InstrOfTag.tagUnknown3 len value
  | tagSyncParams len value => exact Laws.InstrOfTag.tagSyncParams len value
  | tagElectionParams len value => exact Laws.InstrOfTag.tagElectionParams len value
  | tagServiceParameters len value => exact Laws.InstrOfTag.tagServiceParameters len value
  | tagEdrCapabilities len value => exact Laws.InstrOfTag.tagEdrCapabilities len value
  | tagEdrOperation len value => exact Laws.InstrOfTag.tagEdrOperation len value
  | tagInfra len value => exact Laws.InstrOfTag.tagInfra len value
  | tagInvite len value => exact Laws.InstrOfTag.tagInvite len value
  | tagDebugString len value => exact Laws.InstrOfTag.tagDebugString len value
  | tagDatapathState len value => exact Laws.InstrOfTag.tagDatapathState len value
  | tagEncapsulatedIp len value => exact Laws.InstrOfTag.tagEncapsulatedIp len value
  | tagDatapathDebugPacketLive len value => exact Laws.InstrOfTag.tagDatapathDebugPacketLive len value
  | tagDatapathDebugAfLive len value => exact Laws.InstrOfTag.tagDatapathDebugAfLive len value
  | tagArpa len value => exact Laws.InstrOfTag.tagArpa len value
  | tagIeee80211Container len value => exact Laws.InstrOfTag.tagIeee80211Container len value
  | tagChannelSequence len value => exact Laws.InstrOfTag.tagChannelSequence len value
  | tagUnknown19 len value => exact Laws.InstrOfTag.tagUnknown19 len value
  | tagSyncTree len value => exact Laws.InstrOfTag.tagSyncTree len value
  | tagVersion len value => exact Laws.InstrOfTag.tagVersion len value
  | tagBloomFilter len value => exact Laws.InstrOfTag.tagBloomFilter len value
  | tagNanSync len value => exact Laws.InstrOfTag.tagNanSync len value
  | tagElectionParamsV2 len value => exact Laws.InstrOfTag.tagElectionParamsV2 len value
  | tagUnassigned19 len value => exact Laws.InstrOfTag.tagUnassigned19 len value
  | tagUnassigned1A low len value => exact Laws.InstrOfTag.tagUnassigned1A low len value
  | tagUnassigned1C low len value => exact Laws.InstrOfTag.tagUnassigned1C low len value
  | tagUnassigned20 low len value => exact Laws.InstrOfTag.tagUnassigned20 low len value
  | tagUnassigned40 low len value => exact Laws.InstrOfTag.tagUnassigned40 low len value
  | tagUnassigned80 low len value => exact Laws.InstrOfTag.tagUnassigned80 low len value

/-- An instruction is well formed exactly when its value has as many bytes as its length says (R125). -/
theorem Instr.wf_iff (i : Instr) : i.wf = true ↔ i.value.length = i.len.toNat := beq_iff_eq

/-- Decoding a tag header and the bytes behind it, when the value is there (R125, R127). -/
theorem decode_whole {tag lo hi : Byte} {rest : List Byte} (h : (le16 lo hi).toNat ≤ rest.length) :
    decode (tag :: lo :: hi :: rest) =
      .ok (instrOf tag (le16 lo hi) (rest.take (le16 lo hi).toNat), rest.drop (le16 lo hi).toNat) := by
  rw [decode, if_pos h]

/-- Decoding a tag header with fewer bytes behind it than its length says (R218). -/
theorem decode_short {tag lo hi : Byte} {rest : List Byte} (h : rest.length < (le16 lo hi).toNat) :
    decode (tag :: lo :: hi :: rest) = .error .truncatedValue := by
  rw [decode, if_neg (Nat.not_le.2 h)]

/-- Everything `decode` can answer: no tag header, a value cut short, or the TLV and the bytes after it. -/
theorem decode_cases (bytes : List Byte) :
    (bytes.length < 3 ∧ decode bytes = .error .truncatedHeader) ∨
    ∃ tag lo hi rest, bytes = tag :: lo :: hi :: rest ∧
      (rest.length < (le16 lo hi).toNat ∧ decode bytes = .error .truncatedValue ∨
       (le16 lo hi).toNat ≤ rest.length ∧ decode bytes =
          .ok (instrOf tag (le16 lo hi) (rest.take (le16 lo hi).toNat), rest.drop (le16 lo hi).toNat)) := by
  match bytes with
  | [] => exact .inl ⟨by simp, rfl⟩
  | [_] => exact .inl ⟨by simp, rfl⟩
  | [_, _] => exact .inl ⟨by simp, rfl⟩
  | tag :: lo :: hi :: rest =>
    refine .inr ⟨tag, lo, hi, rest, rfl, ?_⟩
    rcases Nat.lt_or_ge rest.length (le16 lo hi).toNat with hlt | hge
    · exact .inl ⟨hlt, decode_short hlt⟩
    · exact .inr ⟨hge, decode_whole hge⟩

/-- A TLV built from a header and as many bytes as its length says is well formed. -/
theorem instrOf_wf (tag : Byte) (len : Half) {value : List Byte} (h : value.length = len.toNat) :
    (instrOf tag len value).wf = true := by
  rw [Instr.wf_iff, instrOf_value, instrOf_len, h]

/-- The bytes of a TLV built from a header and a value are that header and value (R125, R126). -/
theorem encode_instrOf (tag lo hi : Byte) (value : List Byte) :
    encode (instrOf tag (le16 lo hi) value) = tag :: lo :: hi :: value := by
  simp only [encode, instrOf_tag, instrOf_len, instrOf_value, le16_extract_lo, le16_extract_hi]

/-- Settles O1: the length field read back is the number of value bytes, so the value is cut out exactly. -/
theorem decodeOfEncode : Obligations.DecodeOfEncode := by
  intro i rest hwf
  have hlen := i.wf_iff.mp hwf
  have hfits : (le16 (i.len.extractLsb' 0 8) (i.len.extractLsb' 8 8)).toNat ≤ (i.value ++ rest).length := by
    rw [le16_extract, List.length_append]
    omega
  have hdec := decode_whole (tag := i.tag) hfits
  rw [le16_extract, ← hlen, List.take_left, List.drop_left, instrOf_self] at hdec
  exact hdec

/-- Settles O2: the decoder cuts the value out with as many bytes as the length says. -/
theorem encodeOfDecode : Obligations.EncodeOfDecode := by
  intro bytes i rest h
  obtain ⟨-, he⟩ | ⟨tag, lo, hi, bs, rfl, ⟨-, he⟩ | ⟨hfits, hok⟩⟩ := decode_cases bytes
  · cases h.symm.trans he
  · cases h.symm.trans he
  · cases h.symm.trans hok
    refine ⟨instrOf_wf _ _ (List.length_take_of_le hfits), ?_⟩
    rw [encode_instrOf]
    simp only [List.cons_append, List.take_append_drop]

/-- Settles O3, by the three answers of the decoder. -/
theorem decodeRefusesExactlyShortBytes : Obligations.DecodeRefusesExactlyShortBytes := by
  intro bytes
  obtain ⟨hlt, hd⟩ | ⟨tag, lo, hi, rest, rfl, ⟨hlt, hd⟩ | ⟨hge, hd⟩⟩ := decode_cases bytes
  · simp only [hd, hlt, reduceCtorEq, Except.error.injEq, true_and, false_iff]
    omega
  · simp [hd] at hlt ⊢
    omega
  · simp [hd] at hge ⊢
    omega

/-- Settles O4, tag byte by tag byte. -/
theorem opcodeRowsDoNotOverlap : Obligations.OpcodeRowsDoNotOverlap := by
  unfold Obligations.OpcodeRowsDoNotOverlap
  decide +kernel

/-- Settles O5, word by word. -/
theorem specWordsDecode : Obligations.SpecWordsDecode := by
  unfold Obligations.SpecWordsDecode
  decide +kernel

end Sys2Proof

namespace Sys2Proof.Machine

/-! The layouts of the payload formats -/

/-- Two runs of fields, one behind the other. -/
theorem tilesFrom_append {xs ys : List FieldSpec} {a b c : Nat} (hx : tilesFrom a xs b) (hy : tilesFrom b ys c) :
    tilesFrom a (xs ++ ys) c := by
  induction xs generalizing a with
  | nil => exact (show a = b from hx) ▸ hy
  | cons x xs ih =>
    obtain ⟨hoff, hxs⟩ := hx
    exact ⟨hoff, ih hxs⟩

/-- A list of `n` pairs of one-byte fields from offset `o` takes `2 * n` bytes (R129, R132). -/
theorem tilesFrom_bytePairs (name1 name2 : Nat → FieldName) (o n : Nat) :
    tilesFrom o ((List.range n).flatMap fun j =>
      [⟨name1 j, o + 2 * j, 1, true⟩, ⟨name2 j, o + 1 + 2 * j, 1, true⟩]) (o + 2 * n) := by
  induction n with
  | zero => exact rfl
  | succ n ih =>
    rw [List.range_succ, List.flatMap_append, List.flatMap_singleton]
    exact tilesFrom_append ih ⟨rfl, Nat.add_right_comm o 1 (2 * n),
      Nat.add_assoc o (2 * n) 2⟩

/-- Settles O6, format by format: a head of fixed fields, the channel pairs where the format has a list, and the
padding. -/
theorem layoutsTileTheMinimum : Obligations.LayoutsTileTheMinimum := by
  intro p f
  cases f with
  | sync =>
    have hhead : tilesFrom 0 [⟨.scalarPrefix, 0, p.syncScalarLen, false⟩,
        ⟨.masterAddress, p.syncScalarLen, 6, false⟩] (p.syncScalarLen + 6) :=
      ⟨rfl, (Nat.zero_add _).symm, congrArg (· + 6) (Nat.zero_add _)⟩
    exact tilesFrom_append (tilesFrom_append hhead (tilesFrom_bytePairs .chanFlag .chanNumber _ 16)) ⟨rfl, rfl⟩
  | electionV1 => exact ⟨rfl, rfl, rfl, rfl, rfl, rfl, rfl, rfl, rfl⟩
  | channelSeq =>
    have hhead : tilesFrom 0 [⟨.numChannels, 0, 1, true⟩, ⟨.encoding, 1, 1, true⟩, ⟨.duplicate, 2, 1, true⟩,
        ⟨.stepCount, 3, 1, true⟩, ⟨.fillChannel, 4, 2, true⟩] 6 := ⟨rfl, rfl, rfl, rfl, rfl, rfl⟩
    exact tilesFrom_append (tilesFrom_append hhead (tilesFrom_bytePairs .channel .opClass 6 16)) ⟨rfl, rfl⟩
  | electionV2 => exact ⟨rfl, rfl, rfl, rfl, rfl, rfl, rfl, rfl, rfl, rfl⟩

end Sys2Proof.Machine
end

-- ==== O7 to O11, O13: whose step it is, and what it runs (R161, R215, R221, R240) ====
section

namespace Sys2Proof.Machine

/-! The parser's turn as a step, phase by phase -/

/-- A parser turn in CLASSIFY, as a step (R180). -/
theorem step_classify {s : State} (turn : s.parserTurn) (h : s.phase = .classify) :
    step s = .next (classifyStep s.popped) := by
  rw [step_parser turn, parserStep_classify (s := s.popped) h]

/-- A parser turn in HEADER, as a step (R200). -/
theorem step_header {s : State} (turn : s.parserTurn) (h : s.phase = .header) :
    step s = .next (headerStep s.popped) := by
  rw [step_parser turn, parserStep_header (s := s.popped) h]

/-- A parser turn in DISPATCH, as a step (R240). -/
theorem step_dispatch {s : State} (turn : s.parserTurn) (h : s.phase = .dispatch) :
    step s = dispatchStep s.popped := by
  rw [step_parser turn, parserStep_dispatch (s := s.popped) h]

/-- A parser turn in IDLE, DONE or ERROR, as a step (log 15). -/
theorem step_quiescent {s : State} (turn : s.parserTurn) (h : s.phase.busy = false) : step s = .next s.popped := by
  rw [step_parser turn, parserStep_quiescent (s := s.popped) h]

/-- A reset, as a step (R380). -/
theorem step_rst {s : State} {later : List Input} (h : s.schedule = .rst :: later) :
    step s = .next s.popped.rst := by
  rw [step, h]

/-- A DISPATCH step with an entry left (R240). -/
theorem dispatchStep_entry {s : State} (h : s.didx ≠ s.tidx) : dispatchStep s = exec (fetchEntry s) s := by
  rw [dispatchStep, if_neg h]

/-- A DISPATCH step with every entry examined (R167). -/
theorem dispatchStep_finish {s : State} (h : s.didx = s.tidx) : dispatchStep s = .next s.finish := by
  rw [dispatchStep, if_pos h]

/-! What the fetch answers -/

/-- Bytes that decode hold a tag header at least (R217). -/
theorem three_le_of_decode {bytes : List Byte} {x : Instr × List Byte} (h : decode bytes = .ok x) :
    3 ≤ bytes.length := by
  obtain ⟨-, he⟩ | ⟨tag, lo, hi, rest, rfl, -⟩ := decode_cases bytes
  · cases h.symm.trans he
  · simp

/-- When the bytes from the cursor to the end of the payload decode, the fetch answers their TLV (R215). -/
theorem fetchTlv_of_decode {s : State} {i : Instr} {rest : List Byte}
    (hmax : s.inLen.toNat ≤ s.params.maxFrameLen)
    (h : decode ((List.range (s.inLen.toNat - s.cursor.toNat)).map (fun k => s.ibufByte (s.cursor.toNat + k)))
      = .ok (i, rest)) : s.cursor.toNat + 3 ≤ s.inLen.toNat ∧ fetchTlv s = .ok i := by
  have hhead := three_le_of_decode h
  rw [List.length_map, List.length_range] at hhead
  refine ⟨by omega, ?_⟩
  simp only [fetchTlv, if_neg (show ¬ s.inLen.toNat < s.cursor.toNat + 3 by omega),
    State.memBytes_ok (show s.cursor.toNat + (s.inLen.toNat - s.cursor.toNat) ≤ s.inLen.toNat by omega) hmax, h]

/-- The TLV that entry DIDX spells is the one the DISPATCH step runs (R240; log 9). -/
theorem fetchEntry_of_decode {s : State} {i : Instr}
    (h : decode ((s.entry s.didx.toNat).tag :: (s.entry s.didx.toNat).len.extractLsb' 0 8 ::
      (s.entry s.didx.toNat).len.extractLsb' 8 8 :: s.payloadOf (s.entry s.didx.toNat)) = .ok (i, [])) :
    fetchEntry s = i := by
  have hlen := s.payloadOf_length (s.entry s.didx.toNat)
  rw [decode_whole (by rw [le16_extract, hlen]), le16_extract, ← hlen, List.take_length] at h
  exact congrArg Prod.fst (Except.ok.inj h)

/-! The obligations -/

/-- Settles O7: the fetch answers the decoded TLV, and the step runs it. -/
theorem stepRunsTlvAtCursor : Obligations.StepRunsTlvAtCursor := by
  intro s i rest turn hseg hmax hd
  obtain ⟨hhead, hf⟩ := fetchTlv_of_decode hmax hd
  exact step_seg_fetched turn hseg (by bv_omega) hf

/-- Settles O8: the entry's tag, length and payload copy are what the DISPATCH step decodes. -/
theorem stepRunsEntryAtDispatch : Obligations.StepRunsEntryAtDispatch := by
  intro s e i turn hdispatch hne he hd
  subst he
  rw [step_dispatch turn hdispatch, dispatchStep_entry (s := s.popped) hne,
    fetchEntry_of_decode (s := s.popped) hd]
  rfl

/-- Settles O9, by the input that comes next. -/
theorem stepAlwaysAnswersNext : Obligations.StepAlwaysAnswersNext := by
  intro s
  cases hs : s.schedule with
  | nil =>
    rw [step_parser (.inl hs)]
    exact parserStep_next _
  | cons input later =>
    cases input with
    | parser =>
      rw [step_parser (.inr (by rw [hs]; rfl))]
      exact parserStep_next _
    | host op => exact ⟨_, step_host hs⟩
    | rst => exact ⟨_, step_rst hs⟩

/-- Settles O10: the three phases are those that are not BUSY. -/
theorem quiescentParserTurn : Obligations.QuiescentParserTurn := by
  intro s turn hphase
  have hquiet : s.phase.busy = false := by rcases hphase with h | h | h <;> rw [h] <;> rfl
  exact step_quiescent turn hquiet

/-- Settles O11: every meaning is a TLV step, and the TLV step has an answer in SEG and DISPATCH only. -/
theorem noTlvStepOutsideSegAndDispatch : Obligations.NoTlvStepOutsideSegAndDispatch := by
  intro i s hseg hdispatch
  rw [exec_eq_tlvStep, tlvStep]
  cases hp : s.phase with
  | seg => exact absurd hp hseg
  | dispatch => exact absurd hp hdispatch
  | idle | classify | header | done | error => rfl

/-- Settles O13: `exec` in SEG accepts the TLV, and with the table full that is the overflow raise. -/
theorem segTableFullRaises : Obligations.SegTableFullRaises := by
  intro i s hseg hfull
  refine ⟨_, exec_seg hseg i, ?_⟩
  rw [State.acceptTlv_full hfull]
  exact ⟨s.raised_raise _ _, fun _ => rfl, rfl⟩

end Sys2Proof.Machine
end

-- ==== O17 to O24: the dispatch of a TLV (R240 to R244, R248 to R269) ====
section

namespace Sys2Proof.Machine

/-! What dispatching an entry does -/

/-- The three outcomes of dispatching an entry (R240, R242, R243). -/
theorem State.dispatchTlv_cases (s : State) (tag : Byte) (k : Kind) :
    (k ≠ .truncatedPayload ∧ s.dispatchTlv tag k = { s.setKind k with didx := s.didx + 1 }) ∨
    (k = .truncatedPayload ∧ s.pfe = false ∧
      s.dispatchTlv tag k = { s.setKind k with perr := true, didx := s.didx + 1 }) ∨
    (k = .truncatedPayload ∧ s.pfe = true ∧
      s.dispatchTlv tag k = (s.setKind k).raise .truncatedTlvPayload tag) := by
  by_cases hk : k = .truncatedPayload
  · subst hk
    cases hpfe : s.pfe
    · exact .inr (.inl ⟨rfl, rfl, State.dispatchTlv_short hpfe tag⟩)
    · exact .inr (.inr ⟨rfl, rfl, State.dispatchTlv_raise hpfe tag⟩)
  · exact .inl ⟨hk, State.dispatchTlv_full hk tag⟩

/-- In every outcome entry DIDX gets the KIND and no other entry changes (R240). -/
theorem State.dispatchTlv_entry (s : State) (tag : Byte) (k : Kind) (j : Nat) :
    (s.dispatchTlv tag k).entry j =
      if j = s.didx.toNat then { s.entry s.didx.toNat with kind := k } else s.entry j := by
  obtain ⟨-, h⟩ | ⟨-, -, h⟩ | ⟨-, -, h⟩ := s.dispatchTlv_cases tag k <;> rw [h] <;> exact s.entry_setKind k j

/-- Setting a KIND and going on to the next entry, with PERR as it then is (R240). -/
theorem State.dispatchedTo_setKind {s : State} (h : s.phase = .dispatch) (k : Kind) (perr : Bool) :
    dispatchedTo k perr s { s.setKind k with perr := perr, didx := s.didx + 1 } := by
  refine ⟨h, rfl, (s.entry_setKind k _).trans (if_pos rfl), fun j hj => (s.entry_setKind k j).trans (if_neg hj),
    rfl, rfl, rfl, rfl, rfl, rfl, ⟨rfl, rfl, rfl, rfl, rfl, rfl, rfl, rfl⟩, ⟨rfl, rfl, rfl, rfl, rfl⟩, ⟨rfl, rfl⟩,
    fun _ => rfl, fun _ => rfl, ⟨rfl, rfl, rfl⟩, rfl⟩

/-- Setting the KIND of a short entry and failing (R242). -/
theorem State.dispatchFailed_raise (s : State) (tag : Byte) :
    dispatchFailed tag s ((s.setKind .truncatedPayload).raise .truncatedTlvPayload tag) :=
  ⟨(s.setKind _).raised_raise _ _, (s.entry_setKind _ _).trans (if_pos rfl),
    fun j hj => (s.entry_setKind _ j).trans (if_neg hj), rfl⟩

/-- Dispatching a TLV without a decoder, in full (R248 to R269). -/
theorem exec_dispatch_unrecognized {s : State} (h : s.phase = .dispatch) {i : Instr}
    (htag : i.tag ≠ 4 ∧ i.tag ≠ 5 ∧ i.tag ≠ 18 ∧ i.tag ≠ 24) :
    ∃ t, exec i s = .next t ∧ dispatchedTo .unrecognized s.perr s t := by
  refine ⟨_, exec_dispatch h i, ?_⟩
  rw [payloadKind_other htag, State.dispatchTlv_full (by decide)]
  exact State.dispatchedTo_setKind h .unrecognized s.perr

/-- Dispatching a TLV of a payload format, in its three outcomes (R240 to R243). -/
theorem State.dispatchOutcome_format {s : State} (h : s.phase = .dispatch) (tag : Byte) (f : Format) (len : Half) :
    dispatchOutcome tag f.kind (minLen s.params f) len.toNat s
      (s.dispatchTlv tag (kindByLength s.params f len)) := by
  obtain ⟨hlen, hk⟩ | ⟨hlen, hk⟩ := kindByLength_cases s.params f len <;> rw [hk]
  · refine ⟨fun _ => ?_, fun hlt => absurd hlt (by omega), fun hlt => absurd hlt (by omega)⟩
    rw [State.dispatchTlv_full f.kind_ne_truncated]
    exact State.dispatchedTo_setKind h f.kind s.perr
  · refine ⟨fun hle => absurd hle (by omega), fun _ hpfe => ?_, fun _ hpfe => ?_⟩
    · rw [State.dispatchTlv_short hpfe]
      exact State.dispatchedTo_setKind h .truncatedPayload true
    · rw [State.dispatchTlv_raise hpfe]
      exact s.dispatchFailed_raise tag

/-! The obligations -/

/-- The 21 registry tags without a decoder are none of the four recognized ones (R136). -/
theorem registryTag_not_recognized :
    ∀ tag ∈ ([0x00, 0x01, 0x02, 0x03, 0x06, 0x07, 0x08, 0x09, 0x0A, 0x0B, 0x0C, 0x0D, 0x0E, 0x0F, 0x10, 0x11, 0x13,
      0x14, 0x15, 0x16, 0x17] : List Byte), tag ≠ 4 ∧ tag ≠ 5 ∧ tag ≠ 18 ∧ tag ≠ 24 := by decide

/-- Settles O17: none of the 21 tags is recognized. -/
theorem registryTagsAreUnrecognized : Obligations.RegistryTagsAreUnrecognized := by
  intro len value s h i hi
  exact exec_dispatch_unrecognized h (registryTag_not_recognized i.tag (List.mem_map_of_mem (f := Instr.tag) hi))

/-- Settles O18: no tag of an unassigned row is recognized, whatever its open bits. -/
theorem unassignedTagsAreUnrecognized : Obligations.UnassignedTagsAreUnrecognized := by
  intro l1 l2 l5 l6 l7 len value s h i hi
  obtain ⟨u1, u2, u5, u6, u7⟩ := unassigned_not_recognized
  refine exec_dispatch_unrecognized h ?_
  simp only [List.mem_cons, List.not_mem_nil, or_false] at hi
  obtain rfl | rfl | rfl | rfl | rfl | rfl := hi
  · exact (by decide : (0x19 : Byte) ≠ 4 ∧ (0x19 : Byte) ≠ 5 ∧ (0x19 : Byte) ≠ 18 ∧ (0x19 : Byte) ≠ 24)
  · exact u1 l1
  · exact u2 l2
  · exact u5 l5
  · exact u6 l6
  · exact u7 l7

/-- Settles O19: tag 4 is dispatched by the SYNC format. -/
theorem syncParamsDispatch : Obligations.SyncParamsDispatch := fun len value _ h =>
  ⟨_, exec_dispatch h (.tagSyncParams len value), State.dispatchOutcome_format h 4 .sync len⟩

/-- Settles O20: tag 5 is dispatched by the ELEC1 format. -/
theorem electionParamsDispatch : Obligations.ElectionParamsDispatch := fun len value _ h =>
  ⟨_, exec_dispatch h (.tagElectionParams len value), State.dispatchOutcome_format h 5 .electionV1 len⟩

/-- Settles O21: tag 24 is dispatched by the ELEC2 format. -/
theorem electionParamsV2Dispatch : Obligations.ElectionParamsV2Dispatch := fun len value _ h =>
  ⟨_, exec_dispatch h (.tagElectionParamsV2 len value), State.dispatchOutcome_format h 24 .electionV2 len⟩

/-- Settles O22: tag 18 is dispatched by the CHSEQ format. -/
theorem channelSequenceDispatch : Obligations.ChannelSequenceDispatch := fun len value _ h =>
  ⟨_, exec_dispatch h (.tagChannelSequence len value), State.dispatchOutcome_format h 18 .channelSeq len⟩

/-- Settles O23: the KIND is set in every outcome, and only a short entry with PFE = 1 leaves DISPATCH. -/
theorem dispatchSetsPayloadKind : Obligations.DispatchSetsPayloadKind := by
  intro i s h
  refine ⟨_, exec_dispatch h i, (s.dispatchTlv_entry _ _ _).trans (if_pos rfl), ?_⟩
  obtain ⟨hk, ht⟩ | ⟨-, hpfe, ht⟩ | ⟨hk, hpfe, ht⟩ :=
    s.dispatchTlv_cases i.tag (payloadKind s.params i.tag i.len) <;> rw [ht]
  · simp [h, hk]
  · simp [h, hpfe]
  · simp [hk, hpfe]

/-- Settles O24: with no entry left the DISPATCH step is the finish. -/
theorem dispatchFinishes : Obligations.DispatchFinishes := by
  intro s turn h hend
  rw [step_dispatch turn h, dispatchStep_finish (s := s.popped) hend]
  rfl

end Sys2Proof.Machine
end

-- ==== O25, O26, O27: CLASSIFY and HEADER (R180 to R187, R200 to R206) ====
section

namespace Sys2Proof.Machine

/-! CLASSIFY -/

/-- The CLASSIFY step raises the first failing check or moves on to HEADER (R180, R186). -/
theorem classifyStep_cases (s : State) :
    (∃ e, classifyError s = some e ∧ classifyStep s = s.raise e 0) ∨
    (classifyError s = none ∧ classifyStep s = { s with phase := .header }) := by
  cases h : classifyError s with
  | some e => exact .inl ⟨e, rfl, classifyStep_raise h⟩
  | none => exact .inr ⟨rfl, classifyStep_pass h⟩

/-- The first failing check in terms of the input registers and the payload bytes (R181 to R187). -/
theorem classifyError_eq {s : State} {typeOk : Bool}
    (htype : typeOk = true ↔ ftypeFields s.params.packedTypeLayout s.inFtype = (0, 0xD, true)) :
    classifyError s =
      if s.params.maxFrameLen < s.inLen.toNat then some .outOfBounds
      else if typeOk = false then some .clsNotMgmtAction
      else if ¬ (s.inBssidLo = 0xFF002500 ∧ s.inBssidHi = 0x7394) then some .clsBssidMismatch
      else if s.inLen = 0 ∨ s.ibufByte 0 ≠ 127 then some .clsCategoryMismatch
      else if s.inLen.toNat < 4 ∨ ¬ (s.ibufByte 1 = 0x00 ∧ s.ibufByte 2 = 0x17 ∧ s.ibufByte 3 = 0xF2) then
        some .clsOuiMismatch
      else none := by
  by_cases hlong : s.params.maxFrameLen < s.inLen.toNat
  · rw [if_pos hlong, classifyError_long hlong]
  · rw [if_neg hlong, classifyError_inside (Nat.le_of_not_lt hlong)]
    simp only [ne_eq, ← htype, State.bssid_ok, Bool.not_eq_true]

/-- Settles O25: the checks run in the order of the statement, and the step raises the first that fails. -/
theorem classifyReportsFirstFailingCheck : Obligations.ClassifyReportsFirstFailingCheck := by
  intro s typeOk turn h htype
  have hfields := htype.trans (ftypeFields_ok s.params.packedTypeLayout s.inFtype).symm
  have hfirst := classifyError_eq hfields
  obtain ⟨e, he, hstep⟩ | ⟨he, hstep⟩ := classifyStep_cases s.popped
  · have hraised : raised e 0 s (s.popped.raise e 0) := s.popped.raised_raise e 0
    refine ⟨_, (step_classify turn h).trans (congrArg _ hstep), rfl, fun _ => rfl, ?_⟩
    rw [show classifyError s = some e from he] at hfirst
    split_ifs at hfirst ⊢ <;> cases hfirst <;> exact hraised
  · refine ⟨_, (step_classify turn h).trans (congrArg _ hstep), rfl, fun _ => rfl, ?_⟩
    rw [show classifyError s = none from he] at hfirst
    split_ifs at hfirst ⊢
    rfl

/-! HEADER -/

/-- A byte lane of a header register is the payload byte it was read from (R202). -/
theorem State.headerWord_lane (s : State) (off : Nat) {k : Nat} (hk : k < 4) :
    (BitVec.ofNat 32 (le ((List.range 4).map fun k => s.ibufByte (off + k)))).extractLsb' (8 * k) 8 =
      s.ibufByte (off + k) := by
  rw [le_byte _ k (by simpa using hk) (by simp), List.getElem_map, List.getElem_range]

/-- A nibble of a byte lane (R124). -/
theorem extractLsb'_nibble (w : Word) (o : Nat) {n : Nat} (hn : n + 4 ≤ 8) :
    w.extractLsb' (o + n) 4 = (w.extractLsb' o 8).extractLsb' n 4 := by
  ext i hi
  have hin : n + i < 8 := by omega
  simp [hin, Nat.add_assoc]

/-- Settles O26: the HEADER step reads four words, each in four byte lanes. -/
theorem headerStepCopiesFields : Obligations.HeaderStepCopiesFields := by
  intro s turn h h16 hmax
  have hstep := headerStep_ok (s := s.popped) h16 hmax
  have hlane4 : ∀ k < 4, _ := fun k hk => s.headerWord_lane 4 (k := k) hk
  refine ⟨_, (step_header turn h).trans (congrArg _ hstep), rfl, rfl, ?hdr0, hlane4 0 (by decide), ?major, ?minor,
    hlane4 2 (by decide), hlane4 3 (by decide), fun k hk => s.headerWord_lane 8 hk,
    fun k hk => s.headerWord_lane 12 hk, rfl, rfl, rfl, rfl,
    ⟨rfl, rfl, rfl, rfl, rfl, rfl, rfl, rfl⟩, ⟨rfl, rfl, rfl⟩, ⟨rfl, rfl⟩, fun _ => rfl, fun _ => rfl, fun _ => rfl,
    ⟨rfl, rfl, rfl⟩, rfl⟩
  case hdr0 =>
    intro k hk
    exact (s.headerWord_lane 0 hk).trans (congrArg s.ibufByte (Nat.zero_add k))
  case major => exact (extractLsb'_nibble _ 8 (n := 4) (by decide)).trans (congrArg _ (hlane4 1 (by decide)))
  case minor => exact (extractLsb'_nibble _ 8 (n := 0) (by decide)).trans (congrArg _ (hlane4 1 (by decide)))

/-- Settles O27: the HEADER step of a short payload is the error entry. -/
theorem headerStepTruncated : Obligations.HeaderStepTruncated := by
  intro s turn h hshort
  refine ⟨_, step_header turn h, ?_⟩
  rw [headerStep_short (s := s.popped) hshort]
  exact ⟨s.popped.raised_raise _ _, fun _ => rfl, rfl⟩

end Sys2Proof.Machine
end

-- ==== O28, O31 to O36: host writes and illegal transactions (R85 to R88, R162, R165, R348, R392) ====
section

namespace Sys2Proof.Machine

/-! Legality -/

/-- In the CSR space an aligned 32-bit transaction is the only legal one (R87). -/
theorem legalAccess_csr {w : Nat} {a : BusAddr} (h : a.toNat < 0x10000) :
    legalAccess w a = true ↔ w = 32 ∧ a.toNat % 4 = 0 := by
  rw [legalAccess, spaceOf_csr h]
  simp [wordAligned]

/-- No other widths and alignments are legal anywhere (R87; log 7). -/
theorem aligned_of_legalAccess {w : Nat} {a : BusAddr} (h : legalAccess w a = true) :
    w = 8 ∨ (w = 16 ∧ a.toNat % 2 = 0) ∨ (w = 32 ∧ a.toNat % 4 = 0) := by
  unfold legalAccess at h
  cases hs : spaceOf a <;> simp only [hs, wordAligned, narrowAligned, Bool.or_eq_true, Bool.and_eq_true,
    beq_iff_eq] at h <;> tauto

/-- An address of one of the two windows (R86). -/
theorem spaceOf_window {a : BusAddr} (h1 : 0x10000 ≤ a.toNat) (h2 : a.toNat < 0x30000) :
    spaceOf a = .ibuf ∨ spaceOf a = .pbuf := by
  rcases Nat.lt_or_ge a.toNat 0x20000 with h | h
  · exact .inl (spaceOf_ibuf h1 h)
  · exact .inr (spaceOf_pbuf h h2)

/-! Transactions as steps -/

/-- An illegal transaction, as a step (R348). -/
theorem step_illegal {s : State} {w : Nat} {a : BusAddr} {d : Word} {op : HostOp} {later : List Input}
    (hop : op = .read w a ∨ op = .write w a d) (h : s.schedule = .host op :: later)
    (hl : legalAccess w a = false) :
    step s = .next { s with schedule := later, responses := .busErr :: s.responses } := by
  rw [step_host h, State.popped_cons h]
  rcases hop with rfl | rfl <;> simp [State.hostOp, hl, State.respond]

/-- A legal write while BUSY, as a step (R392). -/
theorem step_write_busy {s : State} {w : Nat} {a : BusAddr} {d : Word} {later : List Input}
    (h : s.schedule = .host (.write w a d) :: later) (hb : s.phase.busy = true) (hl : legalAccess w a = true) :
    step s = .next { s with schedule := later, responses := .ack :: s.responses, wdrop := true } := by
  rw [step_host h, State.popped_cons h]
  simp [State.hostOp, hl, hb, State.respond]

/-- CTRL with START: IE and PFE take bits 1 and 2, then a decode starts (R162). -/
theorem State.writeCtrl_start {d : Word} (h : d.getLsbD 0 = true) (s : State) :
    s.writeCtrl d = { s with ie := d.getLsbD 1, pfe := d.getLsbD 2 }.start :=
  if_pos h

/-- A write of the PBUF window is ignored (R165). -/
theorem State.writeData_pbuf (s : State) (w : Nat) {a : BusAddr} (d : Word) (h : spaceOf a = .pbuf) :
    s.writeData w a d = s := by
  rw [State.writeData, h]

/-- A write of the reserved range is ignored (R86). -/
theorem State.writeData_reserved (s : State) (w : Nat) {a : BusAddr} (d : Word) (h : spaceOf a = .reserved) :
    s.writeData w a d = s := by
  rw [State.writeData, h]

/-- A write of the IBUF window stores the bytes of its data (R85, R88). -/
theorem State.writeData_ibuf (s : State) (w : Nat) {a : BusAddr} (d : Word) (h : spaceOf a = .ibuf) :
    s.writeData w a d =
      { s with ibuf :=
          Memory.writeBytes s.params.maxFrameLen s.ibuf (offsetOf a) (bytesOf (w / 8) d.toNat) } := by
  rw [State.writeData, h]
  rfl

/-- Byte `k` of the bytes a write stores (R85). -/
theorem bytesOf_getD_lane (d : Word) {n k : Nat} (hk : k < n) :
    (bytesOf n d.toNat).getD k 0 = d.extractLsb' (8 * k) 8 := by
  rw [List.getD_eq_getElem?_getD, bytesOf_getElem? _ _ _ hk, Option.getD_some]
  apply BitVec.eq_of_toNat_eq
  rw [BitVec.extractLsb'_toNat, BitVec.toNat_ofNat, Nat.shiftRight_eq_div_pow]

/-- IBUF after a write of its window (R85, R88). -/
theorem State.writeData_ibuf_byte (s : State) (w : Nat) {a : BusAddr} (d : Word) (h : spaceOf a = .ibuf) (j : Nat) :
    (s.writeData w a d).ibufByte j =
      if offsetOf a ≤ j ∧ j < offsetOf a + w / 8 ∧ j < s.params.maxFrameLen then
        d.extractLsb' (8 * (j - offsetOf a)) 8
      else s.ibufByte j := by
  have hw := State.writeData_ibuf s w d h
  have hepoch : (s.writeData w a d).epoch = s.epoch := by rw [hw]
  rw [State.ibufByte_write (congrArg State.ibuf hw) hepoch, bytesOf_length]
  split
  · exact bytesOf_getD_lane d (by omega)
  · rfl

/-- No write of a window changes a byte at or beyond MAX_FRAME_LEN (R88). -/
theorem State.writeData_window_beyond (s : State) (w : Nat) {a : BusAddr} (d : Word)
    (h : spaceOf a = .ibuf ∨ spaceOf a = .pbuf) {j : Nat} (hj : s.params.maxFrameLen ≤ j) :
    (s.writeData w a d).ibufByte j = s.ibufByte j ∧ (s.writeData w a d).pbufByte j = s.pbufByte j := by
  rcases h with h | h
  · refine ⟨?_, by rw [State.writeData_ibuf s w d h]; rfl⟩
    rw [State.writeData_ibuf_byte s w d h, if_neg (by omega)]
  · rw [State.writeData_pbuf s w d h]
    exact ⟨rfl, rfl⟩

/-- A write of a window that starts at or beyond MAX_FRAME_LEN is ignored (R88). -/
theorem State.writeData_window_outside (s : State) (w : Nat) {a : BusAddr} (d : Word)
    (h : spaceOf a = .ibuf ∨ spaceOf a = .pbuf) (hoff : s.params.maxFrameLen ≤ offsetOf a) :
    s.writeData w a d = s := by
  rcases h with h | h
  · rw [State.writeData_ibuf s w d h, Memory.writeBytes_outside _ _ _ _ hoff]
  · exact State.writeData_pbuf s w d h

/-! The obligations -/

/-- Settles O28: the write is the CTRL command with START. -/
theorem startCommand : Obligations.StartCommand := by
  intro s d later hs hb hstart
  have hstep := step_writeCtrl hs hb
  rw [State.writeCtrl_start hstart] at hstep
  exact ⟨_, hstep, ⟨rfl, rfl, rfl, rfl, rfl, rfl, ⟨rfl, rfl, rfl, rfl, rfl⟩, rfl, rfl, rfl, rfl⟩, rfl, rfl, rfl, rfl, rfl,
    rfl, rfl, rfl, fun _ => rfl, fun _ => rfl, fun _ => rfl, rfl, rfl, rfl, rfl⟩

/-- Settles O31: each address selects its register, which takes its defined bits. -/
theorem inputRegisterWrites : Obligations.InputRegisterWrites := by
  rintro s a d later hs hb t rfl
  refine ⟨?inLen, ?inFtype, ?inBssidLo, ?inBssidHi, ?entrySel⟩ <;> rintro rfl
  all_goals exact step_writeCsr hs hb (by decide) (by decide)

/-- Settles O32: the address selects no writable register, or a range without any. -/
theorem readOnlyWritesIgnored : Obligations.ReadOnlyWritesIgnored := by
  intro s w a d later hs hb
  refine ⟨?csr, ?pbuf, ?reserved⟩
  case csr =>
    rintro rfl h4 hc hro
    have hoff : a.toNat ∉ [0x004, 0x008, 0x010, 0x014, 0x018, 0x01C, 0x034] := fun hmem =>
      hro ((List.mem_map_of_injective BitVec.toNat_injective).mp hmem)
    rw [step_writeCsr hs hb h4 hc, State.writeCsr_readOnly hoff]
    rfl
  case pbuf =>
    intro h1 h2 hw
    have hspace := spaceOf_pbuf h1 h2
    rw [step_write hs hb (legalAccess_window (.inr hspace) hw), State.writeData_pbuf _ w d hspace]
    rfl
  case reserved =>
    intro h
    cases hl : legalAccess w a with
    | false =>
      refine ⟨.busErr, step_illegal (.inr rfl) hs hl, ?_⟩
      rintro rfl h4
      rw [legalAccess_word a h4] at hl
      cases hl
    | true =>
      refine ⟨.ack, ?_, fun _ _ => rfl⟩
      rw [step_write hs hb hl, State.writeData_reserved _ w d (spaceOf_reserved h)]
      rfl

/-- Settles O33, byte by byte. -/
theorem ibufWindowWrite : Obligations.IbufWindowWrite := by
  intro s w a d later hs hb h1 h2 hw
  have hspace := spaceOf_ibuf h1 h2
  have hoff : offsetOf a = a.toNat - 0x10000 := by rw [offsetOf]; omega
  have hbyte := State.writeData_ibuf_byte { s with schedule := later } w d hspace
  rw [hoff] at hbyte
  refine ⟨_, step_write hs hb (legalAccess_window (.inl hspace) hw), fun k hk hin => ?stored, fun j hj => ?kept, ?frame⟩
  case stored =>
    rw [State.respond_ibufByte, hbyte, if_pos ⟨by omega, by omega, hin⟩, Nat.add_sub_cancel_left]
  case kept =>
    rw [State.respond_ibufByte, hbyte, if_neg hj]
    rfl
  case frame =>
    rw [State.writeData_ibuf _ w d hspace]
    rfl

/-- Settles O35: the two answers to a write while BUSY. -/
theorem writeWhileBusyDropped : Obligations.WriteWhileBusyDropped := fun _ _ _ _ _ hs hb =>
  ⟨step_write_busy hs hb, step_illegal (.inr rfl) hs⟩

/-- Settles O36: such a width or alignment is not legal. -/
theorem illegalAccessBusError : Obligations.IllegalAccessBusError := by
  intro s w a d op later hop hs hbad
  refine step_illegal hop hs (Bool.eq_false_iff.mpr fun hl => ?_)
  split at hbad
  · exact hbad ((legalAccess_csr ‹_›).mp hl)
  · exact hbad (aligned_of_legalAccess hl)

/-- A window byte at or beyond MAX_FRAME_LEN reads 0 (R88). -/
theorem State.readData_window_beyond (s : State) {w k : Nat} {a : BusAddr}
    (h : spaceOf a = .ibuf ∨ spaceOf a = .pbuf) (hw : w ≤ 32) (hk : k < w / 8)
    (hoff : s.params.maxFrameLen ≤ offsetOf a + k) : (s.readData w a).extractLsb' (8 * k) 8 = 0 := by
  rcases h with h | h
  · rw [State.readData_ibuf_byte s h hw hk, State.ibufWindow, if_neg (by omega)]
  · rw [State.readData_pbuf_byte s h hw hk, State.pbufWindow, if_neg (by omega)]

/-- Settles O34: a read byte by byte, a write that starts beyond the windows' end, and any write, dropped ones
included. -/
theorem windowBeyondMaxFrameLen : Obligations.WindowBeyondMaxFrameLen := by
  intro s w a d later h1 h2 hw
  have hspace := spaceOf_window h1 h2
  have hlegal := legalAccess_window hspace hw
  refine ⟨fun hs => ?read, fun hs hb hoff => ?ignored, fun hs => ?kept⟩
  case read =>
    exact ⟨_, _, step_read hs hlegal, rfl, fun k hk hoff => s.readData_window_beyond hspace (by omega) hk hoff⟩
  case ignored =>
    rw [step_write hs hb hlegal, State.writeData_window_outside { s with schedule := later } w d hspace hoff]
    rfl
  case kept =>
    cases hb : s.phase.busy with
    | true => exact ⟨_, step_write_busy hs hb hlegal, fun _ _ => ⟨rfl, rfl⟩⟩
    | false =>
      exact ⟨_, step_write hs hb hlegal, fun j hj =>
        State.writeData_window_beyond { s with schedule := later } w d hspace hj⟩

end Sys2Proof.Machine
end

-- ==== O37 to O41, O46, O47: host reads (R31 to R57, R85, R86, R91, R168) ====
section

namespace Sys2Proof.Machine

/-! Reads as steps -/

/-- A legal read of one of the windows, as a step (R85, R91). -/
theorem step_readWindow {s : State} {w : Nat} {a : BusAddr} {later : List Input}
    (h : s.schedule = .host (.read w a) :: later) (hspace : spaceOf a = .ibuf ∨ spaceOf a = .pbuf)
    (hw : w = 8 ∨ (w = 16 ∧ a.toNat % 2 = 0) ∨ (w = 32 ∧ a.toNat % 4 = 0)) :
    ∃ t, step s = .next t ∧ t.responses = .data (s.readData w a) :: s.responses :=
  ⟨_, step_read h (legalAccess_window hspace hw), rfl⟩

/-- A read of a register whose word is known, as a step (R31 to R57). -/
theorem step_readCsr_eq {s : State} {a : BusAddr} {later : List Input} {v : Word}
    (h : s.schedule = .host (.read 32 a) :: later) (hv : s.readCsr (csrOf a.toNat) = v) (h4 : a.toNat % 4 = 0)
    (hc : a.toNat < 0x10000) : ∃ t, step s = .next t ∧ t.responses = .data v :: s.responses :=
  hv ▸ step_readCsr h h4 hc

/-- A window read of a legal width holds no bit above the width (R85). -/
theorem State.readData_window_lt_width (s : State) {w : Nat} {a : BusAddr}
    (hspace : spaceOf a = .ibuf ∨ spaceOf a = .pbuf) (hw : w = 8 ∨ w = 16 ∨ w = 32) :
    (s.readData w a).toNat < 2 ^ w := by
  have hlt := s.readData_window_lt w hspace
  rcases hw with rfl | rfl | rfl <;> exact hlt

/-- The reserved range reads 0 (R86). -/
theorem State.readData_reserved (s : State) (w : Nat) {a : BusAddr} (h : spaceOf a = .reserved) :
    s.readData w a = 0 := by
  rw [State.readData, h]

/-! Register words as numbers -/

/-- A field with zeros above it is its number. -/
theorem zeros_append_eq_ofNat {m n : Nat} (v : BitVec n) : 0#m ++ v = BitVec.ofNat (m + n) v.toNat := by
  apply BitVec.eq_of_toNat_eq
  have hlt : v.toNat < 2 ^ (m + n) := Nat.lt_of_lt_of_le v.isLt (Nat.pow_le_pow_right (by omega) (by omega))
  rw [toNat_append_eq, BitVec.toNat_ofNat, BitVec.toNat_ofNat, Nat.mod_eq_of_lt hlt, Nat.zero_mod, Nat.mul_zero,
    Nat.add_zero]

/-- A whole word is its number. -/
theorem word_eq_ofNat (v : Word) : v = BitVec.ofNat 32 v.toNat := by
  rw [BitVec.ofNat_toNat, BitVec.setWidth_eq]

/-- CTRL as a number: IE in bit 1, PFE in bit 2 (R32). -/
theorem State.ctrlWord_eq (s : State) : s.ctrlWord = BitVec.ofNat 32 (2 * s.ie.toNat + 4 * s.pfe.toNat) := by
  rw [State.ctrlWord]
  cases s.ie <;> cases s.pfe <;> rfl

/-- STATUS as a number: STATE, IRQ_PEND in bit 2, WDROP in bit 3, PERR in bit 4 (R33). -/
theorem State.statusWord_eq (s : State) :
    s.statusWord = BitVec.ofNat 32
      (s.phase.stateField.toNat + 4 * s.irqPend.toNat + 8 * s.wdrop.toNat + 16 * s.perr.toNat) := by
  have hfield := s.phase.stateField.isLt
  have hirq := s.irqPend.toNat_lt
  have hwdrop := s.wdrop.toNat_lt
  have hperr := s.perr.toNat_lt
  apply BitVec.eq_of_toNat_eq
  simp only [State.statusWord, toNat_append_eq, BitVec.toNat_ofBool, BitVec.toNat_ofNat]
  omega

/-- ERR as a number: CODE in bits 7 to 0, TAG in bits 15 to 8 (R34). -/
theorem State.errWord_eq (s : State) :
    s.errWord = BitVec.ofNat 32 (s.errCode.code.toNat + 256 * s.errTag.toNat) := by
  have hcode := s.errCode.code.isLt
  have htag := s.errTag.isLt
  apply BitVec.eq_of_toNat_eq
  simp only [State.errWord, toNat_append_eq, BitVec.toNat_ofNat]
  omega

/-- ENTRY_INFO as a number: TAG, KIND and LEN (R47). -/
theorem TlvEntry.infoWord_toNat (e : TlvEntry) :
    e.infoWord.toNat = e.tag.toNat + 2 ^ 8 * (kindCode e.kind).toNat + 2 ^ 16 * e.len.toNat := by
  simp only [TlvEntry.infoWord, toNat_append_eq]
  omega

/-! The obligations -/

/-- Settles O37: a legal read answers data, an illegal one BUS_ERR. -/
theorem readsHaveNoSideEffect : Obligations.ReadsHaveNoSideEffect := by
  intro s w a later hs
  cases hl : legalAccess w a with
  | true => exact ⟨_, _, step_read hs hl⟩
  | false => exact ⟨.busErr, s.reads, step_illegal (d := 0) (.inl rfl) hs hl⟩

/-- Settles O38: ID, the reserved registers, and the reserved range at its legal and illegal widths. -/
theorem constantRegisters : Obligations.ConstantRegisters := by
  intro s w a later hs
  refine ⟨?id, ?reservedRegister, fun h => ?reservedRange⟩
  case id =>
    rintro rfl rfl
    exact step_readCsr hs (by decide) (by decide)
  case reservedRegister =>
    rintro rfl h4 hrange
    have hread := step_readCsr hs h4 (by omega)
    rwa [csrOf_reserved (by omega), State.readCsr_reserved] at hread
  case reservedRange =>
    cases hl : legalAccess w a with
    | true =>
      refine ⟨_, .data 0, step_read hs hl, ?_, .inl rfl, fun _ _ => rfl⟩
      rw [State.readData_reserved s w (spaceOf_reserved h)]
      rfl
    | false =>
      refine ⟨_, .busErr, step_illegal (d := 0) (.inl rfl) hs hl, rfl, .inr rfl, ?_⟩
      rintro rfl h4
      rw [legalAccess_word a h4] at hl
      cases hl

/-- STATUS.STATE by its numbers (R33). -/
theorem Phase.stateField_toNat (p : Phase) :
    p.stateField.toNat = match p with
      | .idle => 0
      | .classify | .header | .seg | .dispatch => 1
      | .done => 2
      | .error => 3 := by
  cases p <;> rfl

/-- Settles O39: the registers by address, and the IBUF window byte by byte. -/
theorem controlAndInputReads : Obligations.ControlAndInputReads := by
  intro s w a later hs
  refine ⟨?registers, fun h1 h2 hw => ?window⟩
  case registers =>
    rintro rfl v hv
    obtain ⟨rfl, rfl⟩ | ⟨rfl, rfl⟩ | ⟨rfl, rfl⟩ | ⟨rfl, rfl⟩ | ⟨rfl, rfl⟩ | ⟨rfl, rfl⟩ | ⟨rfl, rfl⟩ := hv
    · exact step_readCsr_eq hs s.ctrlWord_eq (by decide) (by decide)
    · refine step_readCsr_eq hs (s.statusWord_eq.trans ?_) (by decide) (by decide)
      rw [Phase.stateField_toNat] <;> rfl
    · exact step_readCsr_eq hs (zeros_append_eq_ofNat s.inLen) (by decide) (by decide)
    · exact step_readCsr_eq hs (zeros_append_eq_ofNat s.inFtype) (by decide) (by decide)
    · exact step_readCsr_eq hs (word_eq_ofNat s.inBssidLo) (by decide) (by decide)
    · exact step_readCsr_eq hs (zeros_append_eq_ofNat s.inBssidHi) (by decide) (by decide)
    · exact step_readCsr_eq hs (zeros_append_eq_ofNat s.entrySel) (by decide) (by decide)
  case window =>
    have hspace := spaceOf_ibuf h1 h2
    have hoff : offsetOf a = a.toNat - 0x10000 := by rw [offsetOf]; omega
    obtain ⟨t, ht, hr⟩ := step_readWindow hs (.inl hspace) hw
    refine ⟨t, _, ht, hr, fun k hk hin => ?_, s.readData_window_lt_width (.inl hspace) (by omega)⟩
    rw [State.readData_ibuf_byte s hspace (by omega) hk, hoff, State.ibufWindow, if_pos hin]

/-- ERR.CODE by its numbers (R341). -/
theorem ErrCode.code_toNat (e : ErrCode) :
    e.code.toNat = match e with
      | .none => 0
      | .clsNotMgmtAction => 1
      | .clsBssidMismatch => 2
      | .clsCategoryMismatch => 3
      | .clsOuiMismatch => 4
      | .truncatedHeader => 5
      | .truncatedTlv => 6
      | .truncatedTlvPayload => 7
      | .outOfBounds => 8
      | .tlvTableOverflow => 9 := by
  cases e <;> rfl

/-- Settles O40, register by register. -/
theorem resultReads : Obligations.ResultReads := by
  intro s a later hs hb v hv
  have hshow : ∀ w : Word, s.resultRead w = w := State.resultRead_quiescent hb
  obtain ⟨rfl, rfl⟩ | ⟨rfl, rfl⟩ | ⟨rfl, rfl⟩ | ⟨rfl, rfl⟩ | ⟨rfl, rfl⟩ | ⟨rfl, rfl⟩ := hv
  · refine step_readCsr_eq hs ((hshow _).trans (s.errWord_eq.trans ?_)) (by decide) (by decide)
    rw [ErrCode.code_toNat] <;> rfl
  · exact step_readCsr_eq hs ((hshow _).trans (word_eq_ofNat s.hdr0)) (by decide) (by decide)
  · exact step_readCsr_eq hs ((hshow _).trans (word_eq_ofNat s.hdr1)) (by decide) (by decide)
  · exact step_readCsr_eq hs ((hshow _).trans (word_eq_ofNat s.phyTxTime)) (by decide) (by decide)
  · exact step_readCsr_eq hs ((hshow _).trans (word_eq_ofNat s.targetTxTime)) (by decide) (by decide)
  · exact step_readCsr_eq hs ((hshow _).trans (zeros_append_eq_ofNat s.tlvCount)) (by decide) (by decide)

/-- KIND by its numbers (R53). -/
theorem kindCode_toNat (k : Kind) :
    (kindCode k).toNat = match k with
      | .none => 0
      | .sync => 1
      | .electionV1 => 2
      | .channelSeq => 3
      | .electionV2 => 4
      | .unrecognized => 5
      | .truncatedPayload => 6 := by
  cases k <;> rfl

/-- Settles O41: the two registers of the entry shown, and of none. -/
theorem entryReads : Obligations.EntryReads := by
  intro s a later e hs hb he shown hshown
  subst he
  have hshow : ∀ w : Word, s.resultRead w = w := State.resultRead_quiescent hb
  cases shown with
  | true =>
    obtain ⟨hdone, hsel⟩ := hshown.mp rfl
    have hentry := State.selected?_shown hdone hsel
    refine ⟨?info, ?poff⟩ <;> rintro rfl
    case info =>
      obtain ⟨t, ht, hr⟩ := step_readCsr_eq hs (hshow _) (by decide) (by decide)
      refine ⟨t, _, ht, hr, ?_⟩
      simp only [hentry, TlvEntry.infoWord_toNat, kindCode_toNat, if_true] <;> rfl
    case poff =>
      obtain ⟨t, ht, hr⟩ := step_readCsr_eq hs (hshow _) (by decide) (by decide)
      refine ⟨t, _, ht, hr, ?_⟩
      simp only [hentry, toNat_append_eq, BitVec.toNat_ofNat, if_true]
      omega
  | false =>
    have hnone : s.selected? = none := State.selected?_none (by
      by_contra hcon
      simp only [not_or, ne_eq, Decidable.not_not, Nat.not_le] at hcon
      exact absurd (hshown.mpr hcon) (by decide))
    refine ⟨?info, ?poff⟩ <;> rintro rfl <;>
    · obtain ⟨t, ht, hr⟩ := step_readCsr_eq hs (hshow _) (by decide) (by decide)
      exact ⟨t, _, ht, hr, by simp [hnone]⟩

/-- FIELD[k] of an entry without a decoder is 0 (R54, R270). -/
theorem State.fieldOf_undecoded {s : State} {e : TlvEntry}
    (h : e.kind = .none ∨ e.kind = .unrecognized ∨ e.kind = .truncatedPayload) (k : Nat) : s.fieldOf e k = 0 := by
  rcases h with h | h | h <;> simp [State.fieldOf, formatOf?, h]

/-- A byte of the PBUF window in DONE below PWR (R168). -/
theorem State.pbufWindow_done {s : State} {off : Nat} (hdone : s.phase = .done) (hpwr : off < s.pwr.toNat)
    (hmax : off < s.params.maxFrameLen) (lane : Nat) : s.pbufWindow off lane = s.pbufByte off := by
  rw [State.pbufWindow, if_pos hmax, if_pos ⟨hdone, hpwr⟩]

/-- Settles O46: no entry is shown, or the entry shown has no decoder; and its bytes stand in PBUF. -/
theorem noFieldsWithoutDecoder : Obligations.NoFieldsWithoutDecoder := by
  intro s a k w later e hs hb he
  subst he
  refine ⟨?field, ?raw⟩
  case field =>
    rintro rfl hk rfl hcases
    obtain ⟨t, ht, hr⟩ := step_readField hs hk hb
    refine ⟨t, ht, hr.trans (congrArg (fun v => Response.data v :: s.responses) ?_)⟩
    by_cases hshown : s.phase ≠ .done ∨ s.tlvCount.toNat ≤ s.entrySel.toNat
    · rw [State.selected?_none hshown]
    · simp only [not_or, ne_eq, Decidable.not_not, Nat.not_le] at hshown
      obtain ⟨hdone, hsel⟩ := hshown
      rw [State.selected?_shown hdone hsel]
      refine State.fieldOf_undecoded ?_ k
      rcases hcases with h | h | h
      · exact absurd hdone h
      · omega
      · exact h
  case raw =>
    rintro rfl hdone hk hpwr hmax ha
    have hspace : spaceOf a = .pbuf := spaceOf_pbuf (by omega) (by bv_omega)
    have hoff : offsetOf a = (s.entry s.entrySel.toNat).poff.toNat + k := by rw [offsetOf]; bv_omega
    obtain ⟨t, ht, hr⟩ := step_readWindow hs (.inr hspace) (.inl rfl)
    refine ⟨t, ht, hr.trans (congrArg (fun v => Response.data v :: s.responses) ?_)⟩
    rw [← le_singleton_word, ← State.pbufWindow_done hdone hpwr hmax 0, State.readData, hspace, hoff]
    rfl

/-- Settles O47, byte by byte. -/
theorem pbufWindowRead : Obligations.PbufWindowRead := by
  intro s w a later hs hdone h1 h2 hw hpwr hmax
  have hspace := spaceOf_pbuf h1 h2
  have hoff : offsetOf a = a.toNat - 0x20000 := by rw [offsetOf]; omega
  obtain ⟨t, ht, hr⟩ := step_readWindow hs (.inr hspace) hw
  refine ⟨t, _, ht, hr, fun k hk => ?_, s.readData_window_lt_width (.inr hspace) (by omega)⟩
  rw [State.readData_pbuf_byte s hspace (by omega) hk, hoff, State.pbufWindow_done hdone (by omega) (by omega)]

end Sys2Proof.Machine
end

-- ==== O43, O44, O45: the FIELD window of the election and channel sequence formats (R306, R316, R326) ====
section

namespace Sys2Proof.Machine

/-! Little-endian words of two and of four bytes -/

/-- Two bytes as a 32-bit word, zero-extended (R135). -/
theorem le_pair_word (b0 b1 : Byte) : BitVec.ofNat 32 (le [b0, b1]) = 0#16 ++ b1 ++ b0 := by
  have h0 := b0.isLt
  have h1 := b1.isLt
  apply BitVec.eq_of_toNat_eq
  simp only [toNat_append_eq, le_cons, le_nil, BitVec.toNat_ofNat]
  omega

/-- Four bytes as a 32-bit word (R135). -/
theorem le_quad_word (b0 b1 b2 b3 : Byte) : BitVec.ofNat 32 (le [b0, b1, b2, b3]) = b3 ++ b2 ++ b1 ++ b0 := by
  have h0 := b0.isLt
  have h1 := b1.isLt
  have h2 := b2.isLt
  have h3 := b3.isLt
  apply BitVec.eq_of_toNat_eq
  simp only [toNat_append_eq, le_cons, le_nil, BitVec.toNat_ofNat]
  omega

/-! FIELD[k] by the place of scalar field `k` -/

/-- Where scalar field `k` of a format lies in the payload: its offset and width (R129 to R132). -/
def scalarPlace (p : Params) (f : Format) (k : Nat) : Option (Nat × Nat) :=
  (scalarFields p f)[k]?.map fun x => (x.offset, x.width)

/-- FIELD[k] of an entry is the bytes at the place of scalar field `k`, which the payload copy holds (R54, R135). -/
theorem State.fieldOf_place {s : State} {e : TlvEntry} {f : Format} {k o w : Nat}
    (hf : formatOf? e.kind = some f) (hp : scalarPlace s.params f k = some (o, w)) (hin : o + w ≤ e.len.toNat) :
    s.fieldOf e k = BitVec.ofNat 32 (le ((List.range w).map fun i => s.pbufByte (e.poff.toNat + (o + i)))) := by
  obtain ⟨x, hx, hplace⟩ := Option.map_eq_some_iff.mp hp
  cases hplace
  rw [State.fieldOf_scalar hf hx, FieldSpec.value, FieldSpec.raw_payloadOf hin]

/-- FIELD[k] of an entry is 0 where its format has no scalar field `k` (R54). -/
theorem State.fieldOf_noPlace {s : State} {e : TlvEntry} {f : Format} {k : Nat}
    (hf : formatOf? e.kind = some f) (hp : scalarPlace s.params f k = none) : s.fieldOf e k = 0 :=
  State.fieldOf_beyond hf (List.getElem?_eq_none_iff.mp (Option.map_eq_none_iff.mp hp))

/-- A scalar field of one byte (R135). -/
theorem State.fieldOf_byte {s : State} {e : TlvEntry} {f : Format} {k o : Nat} (hf : formatOf? e.kind = some f)
    (hp : scalarPlace s.params f k = some (o, 1)) (hin : o + 1 ≤ e.len.toNat) :
    s.fieldOf e k = 0#24 ++ s.pbufByte (e.poff.toNat + o) :=
  (State.fieldOf_place hf hp hin).trans (le_singleton_word _)

/-- A scalar field of two bytes (R135). -/
theorem State.fieldOf_half {s : State} {e : TlvEntry} {f : Format} {k o : Nat} (hf : formatOf? e.kind = some f)
    (hp : scalarPlace s.params f k = some (o, 2)) (hin : o + 2 ≤ e.len.toNat) :
    s.fieldOf e k = 0#16 ++ s.pbufByte (e.poff.toNat + (o + 1)) ++ s.pbufByte (e.poff.toNat + o) :=
  (State.fieldOf_place hf hp hin).trans (le_pair_word _ _)

/-- A scalar field of four bytes (R135). -/
theorem State.fieldOf_word {s : State} {e : TlvEntry} {f : Format} {k o : Nat} (hf : formatOf? e.kind = some f)
    (hp : scalarPlace s.params f k = some (o, 4)) (hin : o + 4 ≤ e.len.toNat) :
    s.fieldOf e k =
      s.pbufByte (e.poff.toNat + (o + 3)) ++ s.pbufByte (e.poff.toNat + (o + 2)) ++
        s.pbufByte (e.poff.toNat + (o + 1)) ++ s.pbufByte (e.poff.toNat + o) :=
  (State.fieldOf_place hf hp hin).trans (le_quad_word _ _ _ _)

/-! The scalar fields of the three formats -/

/-- The scalar fields of ELEC2 are seven words from offset 12 on (R316). -/
theorem scalarPlace_electionV2 (p : Params) :
    ∀ k < 64, scalarPlace p .electionV2 k = if k < 7 then some (12 + 4 * k, 4) else none := by
  show ∀ k < 64, scalarPlace Params.default .electionV2 k = _
  decide +kernel

/-- The scalar fields of CHSEQ: four bytes, the fill channel, and the 32 bytes of the channel list (R326). -/
theorem scalarPlace_channelSeq (p : Params) :
    ∀ k < 64, scalarPlace p .channelSeq k =
      if k < 4 then some (k, 1) else if k = 4 then some (4, 2) else if k < 37 then some (k + 1, 1) else none := by
  show ∀ k < 64, scalarPlace Params.default .channelSeq k = _
  decide +kernel

/-! The obligations -/

/-- Settles O43, scalar field by scalar field. -/
theorem electionV1FieldWindow : Obligations.ElectionV1FieldWindow := by
  intro s k later e b hs hk hdone hsel he hkind hlen hb
  subst he
  have hf : formatOf? (s.entry s.entrySel.toNat).kind = some .electionV1 := by rw [hkind]; rfl
  obtain ⟨t, ht, hr⟩ := step_readField_shown hs hk hdone hsel
  refine ⟨t, ht, hr.trans (congrArg (fun v => Response.data v :: s.responses) ?_)⟩
  simp only [hb]
  match k with
  | 0 => exact State.fieldOf_byte hf rfl (by omega)
  | 1 => exact State.fieldOf_half hf rfl (by omega)
  | 2 => exact State.fieldOf_byte hf rfl (by omega)
  | 3 => exact State.fieldOf_byte hf rfl (by omega)
  | 4 => exact State.fieldOf_word hf rfl (by omega)
  | 5 => exact State.fieldOf_word hf rfl (by omega)
  | k + 6 => exact State.fieldOf_noPlace hf rfl

/-- Settles O44: the seven words from offset 12 on. -/
theorem electionV2FieldWindow : Obligations.ElectionV2FieldWindow := by
  intro s k later e b hs hk hdone hsel he hkind hlen hb
  subst he
  have hf : formatOf? (s.entry s.entrySel.toNat).kind = some .electionV2 := by rw [hkind]; rfl
  have hplace := scalarPlace_electionV2 s.params k hk
  obtain ⟨t, ht, hr⟩ := step_readField_shown hs hk hdone hsel
  refine ⟨t, ht, hr.trans (congrArg (fun v => Response.data v :: s.responses) ?_)⟩
  simp only [hb]
  split_ifs at hplace ⊢ with h7
  · rw [State.fieldOf_word hf hplace (by omega)]
    simp only [show 12 + 4 * k + 1 = 13 + 4 * k by omega, show 12 + 4 * k + 2 = 14 + 4 * k by omega,
      show 12 + 4 * k + 3 = 15 + 4 * k by omega]
  · exact State.fieldOf_noPlace hf hplace

/-- Settles O45: four bytes, the fill channel, and the channel list whatever num-channels holds. -/
theorem channelSeqFieldWindow : Obligations.ChannelSeqFieldWindow := by
  intro s k later e b hs hk hdone hsel he hkind hlen hb
  subst he
  have hf : formatOf? (s.entry s.entrySel.toNat).kind = some .channelSeq := by rw [hkind]; rfl
  have hplace := scalarPlace_channelSeq s.params k hk
  obtain ⟨t, ht, hr⟩ := step_readField_shown hs hk hdone hsel
  refine ⟨t, ht, hr.trans (congrArg (fun v => Response.data v :: s.responses) ?_)⟩
  simp only [hb]
  split_ifs at hplace ⊢ with h4 heq h37
  · exact State.fieldOf_byte hf hplace (by omega)
  · exact State.fieldOf_half hf hplace (by omega)
  · exact State.fieldOf_byte hf hplace (by omega)
  · exact State.fieldOf_noPlace hf hplace

end Sys2Proof.Machine
end

-- ==== What a step can do, move by move (R160 to R168, R392) ====
section

namespace Sys2Proof.Machine

/-! The parser's moves -/

/-- The state after the HEADER step of a payload that has a whole header (R200, R206). -/
def State.loadHeader (s : State) : State :=
  { s with
    hdr0 := BitVec.ofNat 32 (le ((List.range 4).map (fun k => s.ibufByte (0 + k))))
    hdr1 := BitVec.ofNat 32 (le ((List.range 4).map (fun k => s.ibufByte (4 + k))))
    phyTxTime := BitVec.ofNat 32 (le ((List.range 4).map (fun k => s.ibufByte (8 + k))))
    targetTxTime := BitVec.ofNat 32 (le ((List.range 4).map (fun k => s.ibufByte (12 + k))))
    cursor := 16, phase := .seg }

/-- The state after the SEG step of a TLV with room in the table (R219 to R222). -/
def State.recordTlv (i : Instr) (s : State) : State :=
  { s with
    pbuf := Memory.writeBytes s.params.maxFrameLen s.pbuf s.pwr.toNat i.value
    tlvt := Store.set s.tlvt s.tidx.toNat { tag := i.tag, len := i.len, poff := s.pwr, kind := .none }
    tidx := s.tidx + 1
    pwr := s.pwr + i.len
    cursor := s.cursor + 3 + i.len }

/-- The state after the DISPATCH step of an entry that goes on (R240, R243). -/
def State.dispatchEntry (k : Kind) (perr : Bool) (s : State) : State :=
  { s.setKind k with perr := perr, didx := s.didx + 1 }

/-- The KIND that dispatch gives the entry DIDX (R241). -/
def State.nextKind (s : State) : Kind :=
  payloadKind s.params (s.entry s.didx.toNat).tag (s.entry s.didx.toNat).len

/-- What a parser turn can do, one case per outcome of a phase (R160, R161). -/
inductive ParserMove (s : State) : State → Prop where
  /-- no step in IDLE, DONE and ERROR -/
  | quiet (hquiet : s.phase.busy = false) : ParserMove s s
  /-- an error of CLASSIFY, HEADER or SEG -/
  | fail (e : ErrCode) (hbusy : s.phase.busy = true) (hphase : s.phase ≠ .dispatch)
      (he : e ≠ .none ∧ e ≠ .truncatedTlvPayload) : ParserMove s (s.raise e 0)
  /-- every check of CLASSIFY passes -/
  | accept (hphase : s.phase = .classify) (hok : classifyError s = none) : ParserMove s { s with phase := .header }
  /-- HEADER reads the header -/
  | header (hphase : s.phase = .header) (h16 : 16 ≤ s.inLen.toNat) (hmax : s.inLen.toNat ≤ s.params.maxFrameLen) :
      ParserMove s s.loadHeader
  /-- SEG meets the end of the stream -/
  | endOfStream (hphase : s.phase = .seg) (hend : s.cursor = s.inLen) : ParserMove s { s with phase := .dispatch }
  /-- SEG records the TLV at the cursor -/
  | record (i : Instr) (hphase : s.phase = .seg) (room : s.tidx.toNat ≠ s.params.maxTlvs)
      (hfetch : fetchTlv s = .ok i) : ParserMove s (s.recordTlv i)
  /-- DISPATCH has examined every entry -/
  | finish (hphase : s.phase = .dispatch) (hend : s.didx = s.tidx) : ParserMove s s.finish
  /-- DISPATCH gives an entry its KIND -/
  | decoded (hphase : s.phase = .dispatch) (hleft : s.didx ≠ s.tidx) (hfull : s.nextKind ≠ .truncatedPayload) :
      ParserMove s (s.dispatchEntry s.nextKind s.perr)
  /-- DISPATCH meets a short entry with PFE = 0 -/
  | short (hphase : s.phase = .dispatch) (hleft : s.didx ≠ s.tidx) (hshort : s.nextKind = .truncatedPayload)
      (hpfe : s.pfe = false) : ParserMove s (s.dispatchEntry .truncatedPayload true)
  /-- DISPATCH meets a short entry with PFE = 1 -/
  | shortFail (hphase : s.phase = .dispatch) (hleft : s.didx ≠ s.tidx) (hshort : s.nextKind = .truncatedPayload)
      (hpfe : s.pfe = true) :
      ParserMove s ((s.setKind .truncatedPayload).raise .truncatedTlvPayload (s.entry s.didx.toNat).tag)

/-- With room in the table, accepting a TLV records it. -/
theorem State.acceptTlv_eq_recordTlv {s : State} (room : s.tidx.toNat ≠ s.params.maxTlvs) (i : Instr) :
    s.acceptTlv i.tag i.len i.value = s.recordTlv i :=
  State.acceptTlv_room room i.tag i.len i.value

/-- The KIND of the TLV that entry DIDX spells is the entry's own. -/
theorem payloadKind_fetchEntry (s : State) :
    payloadKind s.params (fetchEntry s).tag (fetchEntry s).len = s.nextKind := by
  rw [fetchEntry, instrOf_tag, instrOf_len]
  rfl

/-- A fetch fails with TRUNCATED_TLV or OUT_OF_BOUNDS only (R217, R218; log 12). -/
theorem fetchTlv_error {s : State} {e : ErrCode} (h : fetchTlv s = .error e) :
    e = .truncatedTlv ∨ e = .outOfBounds := by
  obtain ⟨-, hf⟩ | ⟨-, -, hf⟩ | ⟨-, -, -, hf⟩ | ⟨-, -, hf⟩ := fetchTlv_cases s rfl
  · cases h.symm.trans hf
    exact .inl rfl
  · cases h.symm.trans hf
    exact .inr rfl
  · cases h.symm.trans hf
    exact .inl rfl
  · cases h.symm.trans hf

/-- The CLASSIFY step is a move. -/
theorem parserMove_classify {s : State} (h : s.phase = .classify) : ParserMove s (classifyStep s) := by
  obtain ⟨e, he, ht⟩ | ⟨hok, ht⟩ := classifyStep_cases s <;> rw [ht]
  · exact .fail e (by rw [h]; rfl) (by rw [h]; decide) (classifyError_codes he)
  · exact .accept h hok

/-- The HEADER step is a move. -/
theorem parserMove_header {s : State} (h : s.phase = .header) : ParserMove s (headerStep s) := by
  have hbusy : s.phase.busy = true := by rw [h]; rfl
  have hphase : s.phase ≠ .dispatch := by rw [h]; decide
  rcases Nat.lt_or_ge s.inLen.toNat 16 with h16 | h16
  · rw [headerStep_short h16]
    exact .fail _ hbusy hphase (by decide)
  rcases Nat.lt_or_ge s.params.maxFrameLen s.inLen.toNat with hmax | hmax
  · rw [headerStep_long h16 hmax]
    exact .fail _ hbusy hphase (by decide)
  · rw [headerStep_ok h16 hmax]
    exact .header h h16 hmax

/-- Accepting a fetched TLV is a move. -/
theorem parserMove_accept {s : State} {i : Instr} (h : s.phase = .seg) (hf : fetchTlv s = .ok i) :
    ParserMove s (s.acceptTlv i.tag i.len i.value) := by
  by_cases room : s.tidx.toNat = s.params.maxTlvs
  · rw [State.acceptTlv_full room]
    exact .fail _ (by rw [h]; rfl) (by rw [h]; decide) (by decide)
  · rw [State.acceptTlv_eq_recordTlv room]
    exact .record i h room hf

/-- Dispatching the entry DIDX is a move. -/
theorem parserMove_dispatchTlv {s : State} (h : s.phase = .dispatch) (hleft : s.didx ≠ s.tidx) :
    ParserMove s (s.dispatchTlv (fetchEntry s).tag s.nextKind) := by
  obtain ⟨hk, ht⟩ | ⟨hk, hpfe, ht⟩ | ⟨hk, hpfe, ht⟩ := s.dispatchTlv_cases (fetchEntry s).tag s.nextKind <;> rw [ht]
  · exact .decoded h hleft hk
  · rw [hk]
    exact .short h hleft hk hpfe
  · rw [hk, fetchEntry, instrOf_tag]
    exact .shortFail h hleft hk hpfe

/-- Every parser turn is one of the moves. -/
theorem parserMove_of_parserStep {s t : State} (h : parserStep s = .next t) : ParserMove s t := by
  obtain ⟨hquiet, rfl⟩ | ⟨hp, rfl⟩ | ⟨hp, rfl⟩ | ⟨hp, hend, rfl⟩ | ⟨hp, -, e, he, rfl⟩ | ⟨hp, -, i, hi, rfl⟩ |
    ⟨hp, hend, rfl⟩ | ⟨hp, hleft, rfl⟩ := parserStep_cases h
  · exact .quiet hquiet
  · exact parserMove_classify hp
  · exact parserMove_header hp
  · exact .endOfStream hp hend
  · refine .fail e (by rw [hp]; rfl) (by rw [hp]; decide) ?_
    obtain rfl | rfl := fetchTlv_error he <;> decide
  · exact parserMove_accept hp hi
  · exact .finish hp hend
  · rw [payloadKind_fetchEntry]
    exact parserMove_dispatchTlv hp hleft

/-- A step in a parser turn is a move of the state with the turn taken off the schedule. -/
theorem parserMove_of_step {s t : State} (turn : s.parserTurn) (h : step s = .next t) : ParserMove s.popped t :=
  parserMove_of_parserStep ((step_parser turn).symm.trans h)

/-! The host's moves -/

/-- What a host transaction can do, one case per effect on the block (R162 to R168, R348, R392). -/
inductive HostMove (s : State) : HostOp → State → Prop where
  /-- BUS_ERR, a read, or a write that is ignored -/
  | answer {op : HostOp} (r : Response) (n : Nat) :
      HostMove s op { s with responses := r :: s.responses, reads := n }
  /-- a write dropped while BUSY -/
  | drop (w : Nat) (a : BusAddr) (d : Word) (hbusy : s.phase.busy = true) (hlegal : legalAccess w a = true) :
      HostMove s (.write w a d) { s with responses := .ack :: s.responses, wdrop := true }
  /-- START -/
  | start (d : Word) (hquiet : s.phase.busy = false) (hstart : d.getLsbD 0 = true) :
      HostMove s (.write 32 0x004 d) ({ s with ie := d.getLsbD 1, pfe := d.getLsbD 2 }.start.respond .ack)
  /-- CTRL without START -/
  | control {op : HostOp} (hquiet : s.phase.busy = false) (ie pfe : Bool) :
      HostMove s op ({ s with ie := ie, pfe := pfe }.respond .ack)
  /-- STATUS, write one to clear -/
  | status {op : HostOp} (d : Word) (hquiet : s.phase.busy = false) : HostMove s op ((s.writeStatus d).respond .ack)
  /-- an input register or ENTRY_SEL -/
  | input {op : HostOp} (hquiet : s.phase.busy = false) (len : Half) (ftype : Byte) (lo : Word) (hi sel : Half) :
      HostMove s op
        ({ s with inLen := len, inFtype := ftype, inBssidLo := lo, inBssidHi := hi, entrySel := sel }.respond .ack)
  /-- bytes of IBUF -/
  | ibuf {op : HostOp} (hquiet : s.phase.busy = false) (off : Nat) (bs : List Byte) :
      HostMove s op
        ({ s with ibuf := Memory.writeBytes s.params.maxFrameLen s.ibuf off bs }.respond .ack)

/-- CTRL is at address 0x004 of the CSR space only. -/
theorem csrOf_eq_ctrl {n : Nat} (h : csrOf n = .ctrl) : n = 4 := by
  unfold csrOf at h
  split at h
  case h_2 => rfl
  case h_17 => split at h <;> cases h
  all_goals cases h

/-- A register write while not BUSY is a move; a CTRL write with START is told by its address. -/
theorem hostMove_writeCsr {s : State} {a : BusAddr} {d : Word} (hquiet : s.phase.busy = false)
    (hc : a.toNat < 0x10000) : HostMove s (.write 32 a d) ((s.writeCsr d (csrOf a.toNat)).respond .ack) := by
  cases hcsr : csrOf a.toNat with
  | ctrl =>
    obtain rfl : a = 0x004 := BitVec.eq_of_toNat_eq (csrOf_eq_ctrl hcsr)
    rw [State.writeCsr_ctrl]
    cases hstart : d.getLsbD 0 with
    | true =>
      rw [State.writeCtrl_start hstart]
      exact .start d hquiet hstart
    | false =>
      rw [State.writeCtrl_noStart hstart]
      exact .control hquiet _ _
  | status => exact .status d hquiet
  | inLen => exact .input hquiet _ s.inFtype s.inBssidLo s.inBssidHi s.entrySel
  | inFtype => exact .input hquiet s.inLen _ s.inBssidLo s.inBssidHi s.entrySel
  | inBssidLo => exact .input hquiet s.inLen s.inFtype _ s.inBssidHi s.entrySel
  | inBssidHi => exact .input hquiet s.inLen s.inFtype s.inBssidLo _ s.entrySel
  | entrySel => exact .input hquiet s.inLen s.inFtype s.inBssidLo s.inBssidHi _
  | id | err | hdr0 | hdr1 | phyTxTime | targetTxTime | tlvCount | entryInfo | entryPoff | field | reserved =>
    exact .answer .ack s.reads

/-- A legal write while not BUSY is a move. -/
theorem hostMove_write {s : State} {w : Nat} {a : BusAddr} {d : Word} (hquiet : s.phase.busy = false)
    (hl : legalAccess w a = true) : HostMove s (.write w a d) ((s.writeData w a d).respond .ack) := by
  rcases Nat.lt_or_ge a.toNat 0x10000 with h1 | h1
  · obtain ⟨rfl, -⟩ := (legalAccess_csr h1).mp hl
    have hoff : offsetOf a = a.toNat := Nat.mod_eq_of_lt h1
    rw [State.writeData, spaceOf_csr h1, hoff]
    exact hostMove_writeCsr hquiet h1
  rcases Nat.lt_or_ge a.toNat 0x20000 with h2 | h2
  · rw [State.writeData_ibuf s w d (spaceOf_ibuf h1 h2)]
    exact .ibuf hquiet _ _
  rcases Nat.lt_or_ge a.toNat 0x30000 with h3 | h3
  · rw [State.writeData_pbuf s w d (spaceOf_pbuf h2 h3)]
    exact .answer .ack s.reads
  · rw [State.writeData_reserved s w d (spaceOf_reserved h3)]
    exact .answer .ack s.reads

/-- Every host transaction is one of the moves. -/
theorem hostMove_hostOp (s : State) (op : HostOp) : HostMove s op (s.hostOp op) := by
  cases op with
  | read w a =>
    rw [State.hostOp]
    split
    · exact .answer _ _
    · exact .answer .busErr s.reads
  | write w a d =>
    rw [State.hostOp]
    split
    · rename_i hl
      split
      · rename_i hbusy
        exact .drop w a d hbusy hl
      · rename_i hquiet
        exact hostMove_write (Bool.eq_false_iff.mpr hquiet) hl
    · exact .answer .busErr s.reads

/-! A step is a move -/

/-- Who moves in a step, and what the move is: the parser, the host, or `rst` (R92, R380). -/
theorem step_moves {s t : State} (h : step s = .next t) :
    (s.parserTurn ∧ ParserMove s.popped t) ∨
    (∃ op later, s.schedule = .host op :: later ∧ HostMove s.popped op t) ∨
    (∃ later, s.schedule = .rst :: later ∧ t = s.popped.rst) := by
  obtain ⟨turn, hp⟩ | ⟨op, later, hs, rfl⟩ | ⟨later, hs, rfl⟩ := step_cases h
  · exact .inl ⟨turn, parserMove_of_parserStep hp⟩
  · exact .inr (.inl ⟨op, later, hs, hostMove_hostOp _ op⟩)
  · exact .inr (.inr ⟨later, hs, rfl⟩)

end Sys2Proof.Machine
end

-- ==== O49 to O53: reset, the phase graph, the flags, and what lasts (R33, R160, R380, R394) ====
section

namespace Sys2Proof.Machine

/-! What a parser turn does to one part of the state -/

/-- No parser turn changes the parameters (R11 to R14). -/
theorem ParserMove.params_eq {s t : State} (h : ParserMove s t) : t.params = s.params := by
  cases h <;> rfl

/-- No parser turn changes WDROP (R392). -/
theorem ParserMove.wdrop_eq {s t : State} (h : ParserMove s t) : t.wdrop = s.wdrop := by
  cases h <;> rfl

/-- A parser turn completes a decode, setting IRQ_PEND, or leaves IRQ_PEND alone and goes on (R166, R167, R350). -/
theorem ParserMove.completes_or_goesOn {s t : State} (h : ParserMove s t) :
    (s.phase.busy = true ∧ (t.phase = .done ∨ t.phase = .error) ∧ t.irqPend = true) ∨
    (t.irqPend = s.irqPend ∧ t.phase.busy = s.phase.busy) := by
  cases h with
  | quiet hquiet => exact .inr ⟨rfl, rfl⟩
  | fail e hbusy hphase he => exact .inl ⟨hbusy, .inr rfl, rfl⟩
  | accept hphase hok => exact .inr ⟨rfl, by rw [hphase]; rfl⟩
  | header hphase h16 hmax => exact .inr ⟨rfl, by rw [hphase]; rfl⟩
  | endOfStream hphase hend => exact .inr ⟨rfl, by rw [hphase]; rfl⟩
  | record i hphase room hfetch => exact .inr ⟨rfl, rfl⟩
  | finish hphase hend => exact .inl ⟨by rw [hphase]; rfl, .inl rfl, rfl⟩
  | decoded hphase hleft hfull => exact .inr ⟨rfl, rfl⟩
  | short hphase hleft hshort hpfe => exact .inr ⟨rfl, rfl⟩
  | shortFail hphase hleft hshort hpfe => exact .inl ⟨by rw [hphase]; rfl, .inr rfl, rfl⟩

/-- The entry DIDX has the KIND it is given, when DISPATCH goes on (R240). -/
theorem State.dispatchEntry_entry (s : State) (k : Kind) (perr : Bool) (j : Nat) :
    (s.dispatchEntry k perr).entry j =
      if j = s.didx.toNat then { s.entry s.didx.toNat with kind := k } else s.entry j :=
  s.entry_setKind k j

/-- Only the dispatch of a short entry with PFE = 0 sets PERR (R243). -/
theorem ParserMove.sets_perr {s t : State} (h : ParserMove s t) (hs : s.perr = false) (ht : t.perr = true) :
    s.phase = .dispatch ∧ s.pfe = false ∧ (t.entry s.didx.toNat).kind = .truncatedPayload := by
  have same {P : Prop} (heq : t.perr = s.perr) : P := by rw [heq, hs] at ht; cases ht
  cases h with
  | short hphase hleft hshort hpfe =>
    refine ⟨hphase, hpfe, ?_⟩
    rw [State.dispatchEntry_entry, if_pos rfl]
  | fail | shortFail => cases ht
  | quiet | accept | header | endOfStream | record | finish | decoded => exact same rfl

/-! What a host transaction does to one part of the state -/

/-- No host transaction changes the parameters (R11 to R14). -/
theorem HostMove.params_eq {s t : State} {op : HostOp} (h : HostMove s op t) : t.params = s.params := by
  cases h <;> rfl

/-- A host transaction moves the phase as START only, to CLASSIFY (R162). -/
theorem HostMove.phase_cases {s t : State} {op : HostOp} (h : HostMove s op t) :
    t.phase = s.phase ∨
      (s.phase.busy = false ∧ (∃ d, op = .write 32 0x004 d ∧ d.getLsbD 0 = true) ∧ t.phase = .classify) := by
  cases h with
  | start d hquiet hstart => exact .inr ⟨hquiet, ⟨d, rfl, hstart⟩, rfl⟩
  | answer | drop | control | status | input | ibuf => exact .inl rfl

/-- No host transaction sets IRQ_PEND (R33). -/
theorem HostMove.irqPend_le {s t : State} {op : HostOp} (h : HostMove s op t) (ht : t.irqPend = true) :
    s.irqPend = true := by
  cases h with
  | start => cases ht
  | status d hquiet => exact (Bool.and_eq_true_iff.mp ht).1
  | answer | drop | control | input | ibuf => exact ht

/-- Only a legal write while BUSY sets WDROP (R392). -/
theorem HostMove.sets_wdrop {s t : State} {op : HostOp} (h : HostMove s op t) (hs : s.wdrop = false)
    (ht : t.wdrop = true) :
    s.phase.busy = true ∧ ∃ w a d, op = .write w a d ∧ legalAccess w a = true := by
  have same {P : Prop} (hle : t.wdrop = true → s.wdrop = true) : P := by cases hs.symm.trans (hle ht)
  cases h with
  | drop w a d hbusy hlegal => exact ⟨hbusy, w, a, d, rfl, hlegal⟩
  | start => cases ht
  | status d hquiet => exact same fun hand => (Bool.and_eq_true_iff.mp hand).1
  | answer | control | input | ibuf => exact same id

/-- No host transaction sets PERR (R243). -/
theorem HostMove.perr_le {s t : State} {op : HostOp} (h : HostMove s op t) (ht : t.perr = true) :
    s.perr = true := by
  cases h with
  | start => cases ht
  | answer | drop | control | status | input | ibuf => exact ht

/-- FIELD[k] of an entry depends on the parameters and PBUF only (R54). -/
theorem State.fieldOf_congr {s t : State} (hp : t.params = s.params) (hb : ∀ a, t.pbufByte a = s.pbufByte a)
    (e : TlvEntry) (k : Nat) : t.fieldOf e k = s.fieldOf e k := by
  rw [State.fieldOf, State.fieldOf, hp, State.payloadOf_congr hb]

/-- The results of a decode and everything they are read from are as before (R394). -/
def keepsResults (s t : State) : Prop :=
  t.phase = s.phase ∧ sameResults s t ∧ sameErr s t ∧ t.perr = s.perr ∧ sameTable s t ∧ samePbuf s t ∧
    sameCounters s t ∧ ∀ e k, t.fieldOf e k = s.fieldOf e k

/-- States that differ in inputs, flags but PERR, IBUF and the model's own records only show the same results. -/
theorem keepsResults_of_frame {s t : State} (hpar : t.params = s.params) (hphase : t.phase = s.phase)
    (hres : sameResults s t) (herr : sameErr s t) (hperr : t.perr = s.perr) (htable : t.tlvt = s.tlvt)
    (hpbuf : t.pbuf = s.pbuf) (hcnt : sameCounters s t) (hepoch : t.epoch = s.epoch) : keepsResults s t :=
  ⟨hphase, hres, herr, hperr, State.entry_congr htable hepoch, State.pbufByte_congr hpbuf hepoch, hcnt,
    State.fieldOf_congr hpar (State.pbufByte_congr hpbuf hepoch)⟩

/-- A host transaction other than START keeps the results (R394). -/
theorem HostMove.keepsResults {s t : State} {op : HostOp} (h : HostMove s op t)
    (hstart : ∀ d, op = .write 32 0x004 d → d.getLsbD 0 = false) : keepsResults s t := by
  cases h with
  | start d hquiet hbit => cases hbit.symm.trans (hstart d rfl)
  | answer | drop | control | status | input | ibuf =>
    exact keepsResults_of_frame rfl rfl ⟨rfl, rfl, rfl, rfl, rfl⟩ ⟨rfl, rfl⟩ rfl rfl rfl ⟨rfl, rfl, rfl, rfl⟩ rfl

/-- A parser turn in a phase that is not BUSY changes nothing (R161, R364). -/
theorem ParserMove.eq_of_quiet {s t : State} (h : ParserMove s t) (hquiet : s.phase.busy = false) : t = s := by
  have busy {P : Prop} {p : Phase} (hp : s.phase = p) (hb : p.busy = true) : P := by
    rw [hp, hb] at hquiet
    cases hquiet
  cases h with
  | quiet => rfl
  | fail e hbusy => cases hquiet.symm.trans hbusy
  | accept hphase | header hphase | endOfStream hphase | record i hphase | finish hphase | decoded hphase
  | short hphase | shortFail hphase => exact busy hphase rfl

/-! The obligations -/

/-- After reset STATUS reads 0 (R382). -/
theorem State.reset_statusWord : State.reset.statusWord = 0 := by decide

/-- After reset CTRL reads 0 (R382). -/
theorem State.reset_ctrlWord : State.reset.ctrlWord = 0 := by decide

/-- After reset ERR reads 0 (R382). -/
theorem State.reset_errWord : State.reset.errWord = 0 := by decide

/-- Settles O49: `rst` puts the registers of `State.reset` back. -/
theorem resetFromAnyState : Obligations.ResetFromAnyState := by
  intro s later hs
  refine ⟨_, step_rst hs, fun u hu => ?_⟩
  obtain rfl | rfl := List.mem_pair.mp hu
  all_goals exact ⟨rfl, rfl, rfl, rfl, rfl, rfl, State.reset_statusWord, State.reset_ctrlWord, State.reset_errWord, rfl, rfl,
    rfl, rfl, rfl, ⟨rfl, rfl, rfl, rfl, rfl⟩, rfl, rfl, rfl, rfl, rfl, rfl, rfl, rfl⟩

/-- Settles O50: the arrows of the parser's moves, of the host's and of `rst`. -/
theorem phaseGraph : Obligations.PhaseGraph := by
  intro s t h
  refine ⟨fun turn => ?parser, fun op later hs => ?host, fun later hs => ?rst⟩
  case parser =>
    cases parserMove_of_step turn h with
    | quiet hquiet =>
      cases hp : s.phase with
      | idle | done | error => exact hp
      | classify | header | seg | dispatch => simp [hp, Phase.busy] at hquiet
    | fail e hbusy hphase he =>
      cases hp : s.phase with
      | classify | header => exact .inr rfl
      | seg => exact .inr (.inr rfl)
      | dispatch => exact absurd hp hphase
      | idle | done | error => simp [hp, Phase.busy] at hbusy
    | accept hphase hok => rw [show s.phase = .classify from hphase]; exact .inl rfl
    | header hphase h16 hmax => rw [show s.phase = .header from hphase]; exact .inl rfl
    | endOfStream hphase hend => rw [show s.phase = .seg from hphase]; exact .inr (.inl rfl)
    | record i hphase room hfetch => rw [show s.phase = .seg from hphase]; exact .inl hphase
    | finish hphase hend => rw [show s.phase = .dispatch from hphase]; exact .inr (.inl rfl)
    | decoded hphase hleft hfull => rw [show s.phase = .dispatch from hphase]; exact .inl hphase
    | short hphase hleft hshort hpfe => rw [show s.phase = .dispatch from hphase]; exact .inl hphase
    | shortFail hphase hleft hshort hpfe =>
      rw [show s.phase = .dispatch from hphase]
      exact .inr (.inr ⟨rfl, hpfe⟩)
  case host =>
    have hmove : HostMove s.popped op t := Host.Outcome.next.inj ((step_host hs).symm.trans h) ▸ hostMove_hostOp _ op
    refine ⟨?_, fun hno => ?_⟩
    · rintro ⟨hquiet, d, rfl, hstart⟩
      rw [step_writeCtrl hs hquiet, State.writeCtrl_start hstart] at h
      cases h
      rfl
    · obtain hkeep | ⟨hquiet, hop, -⟩ := hmove.phase_cases
      · exact hkeep
      · exact absurd ⟨hquiet, hop⟩ hno
  case rst =>
    cases (step_rst hs).symm.trans h
    rfl

/-- Settles O51, by who moves. -/
theorem flagsAreSetOnlyByTheirEvents : Obligations.FlagsAreSetOnlyByTheirEvents := by
  intro s t h
  obtain ⟨turn, hmove⟩ | ⟨op, later, hs, hmove⟩ | ⟨later, hs, rfl⟩ := step_moves h
  · refine ⟨fun hbusy hend => ?entry, fun hs ht => ?irqPend, fun hs ht => ?wdrop, fun hs ht => ?perr⟩
    case entry =>
      obtain ⟨-, -, hirq⟩ | ⟨-, hgoes⟩ := hmove.completes_or_goesOn
      · exact hirq
      · have hbusy' : t.phase.busy = true := hgoes.trans hbusy
        rcases hend with he | he <;> simp [he, Phase.busy] at hbusy'
    case irqPend =>
      obtain ⟨hbusy, hend, -⟩ | ⟨hsame, -⟩ := hmove.completes_or_goesOn
      · exact ⟨turn, hbusy, hend⟩
      · cases ht.symm.trans (hsame.trans hs)
    case wdrop => cases ht.symm.trans (hmove.wdrop_eq.trans hs)
    case perr => exact ⟨turn, hmove.sets_perr hs ht⟩
  · refine ⟨fun hbusy hend => ?entry, fun hirq ht => ?irqPend, fun hwdrop ht => ?wdrop, fun hperr ht => ?perr⟩
    case entry =>
      obtain hkeep | ⟨hquiet, -, -⟩ := hmove.phase_cases
      · have hbusy' : t.phase.busy = true := (congrArg Phase.busy hkeep).trans hbusy
        rcases hend with he | he <;> simp [he, Phase.busy] at hbusy'
      · cases hbusy.symm.trans hquiet
    case irqPend => cases hirq.symm.trans (hmove.irqPend_le ht)
    case wdrop =>
      obtain ⟨hbusy, w, a, d, rfl, hlegal⟩ := hmove.sets_wdrop hwdrop ht
      exact ⟨hbusy, w, a, d, later, hs, hlegal⟩
    case perr => cases hperr.symm.trans (hmove.perr_le ht)
  · refine ⟨fun _ hend => ?_, fun _ ht => ?_, fun _ ht => ?_, fun _ ht => ?_⟩
    · rcases hend with he | he <;> cases he
    all_goals cases ht

/-- Settles O52: the parser has no move, and of the host's moves only START touches a result. -/
theorem resultsLastUntilStart : Obligations.ResultsLastUntilStart := by
  intro s t hphase h hrst hstart
  have hquiet : s.phase.busy = false := by rcases hphase with hp | hp <;> rw [hp] <;> rfl
  obtain ⟨-, hmove⟩ | ⟨op, later, hs, hmove⟩ | ⟨later, hs, -⟩ := step_moves h
  · rw [hmove.eq_of_quiet hquiet]
    exact keepsResults_of_frame (s := s) (t := s.popped) rfl rfl ⟨rfl, rfl, rfl, rfl, rfl⟩ ⟨rfl, rfl⟩ rfl rfl rfl
      ⟨rfl, rfl, rfl, rfl⟩ rfl
  · exact hmove.keepsResults fun d hop => hstart d later (hop ▸ hs)
  · exact absurd (by rw [hs]; rfl) hrst

/-- Settles O53, by who moves. -/
theorem parametersAreConstant : Obligations.ParametersAreConstant := by
  intro s t h
  obtain ⟨-, hmove⟩ | ⟨op, later, -, hmove⟩ | ⟨later, -, rfl⟩ := step_moves h
  · exact hmove.params_eq
  · exact hmove.params_eq
  · rfl

end Sys2Proof.Machine
end

-- ==== O54, O55: the invariant of the block (R34, R49 to R53, R100, R222, R224, R243) ====
section

namespace Sys2Proof.Machine

/-! The parts of the invariant, phase by phase -/

/-- Where no Frame record is shown, `InvResults` says that the results are 0 (R166). -/
theorem invResults_cleared {s : State}
    (h : s.phase = .idle ∨ s.phase = .classify ∨ s.phase = .header ∨ s.phase = .error) :
    InvResults s ↔ clearedResults s := by
  rcases h with h | h | h | h <;> rw [InvResults, h]

/-- In SEG and DISPATCH, `InvResults` says that TLV_COUNT is 0 (R167). -/
theorem invResults_running {s : State} (h : s.phase = .seg ∨ s.phase = .dispatch) :
    InvResults s ↔ s.tlvCount = 0 := by
  rcases h with h | h <;> rw [InvResults, h]

/-- Before SEG, `InvCursor` says that cursor and counters are 0 (R162). -/
theorem invCursor_zero {s : State} (h : s.phase = .classify ∨ s.phase = .header) :
    InvCursor s ↔ s.cursor = 0 ∧ s.tidx = 0 ∧ s.didx = 0 ∧ s.pwr = 0 := by
  rcases h with h | h <;> rw [InvCursor, h]

/-- `InvCursor` in SEG (R216). -/
theorem invCursor_seg {s : State} (h : s.phase = .seg) :
    InvCursor s ↔ 16 ≤ s.cursor.toNat ∧ s.cursor.toNat ≤ s.inLen.toNat ∧ s.inLen.toNat ≤ s.params.maxFrameLen ∧
      s.tidx.toNat ≤ s.params.maxTlvs ∧ s.didx = 0 := by
  rw [InvCursor, h]

/-- `InvCursor` in DISPATCH (R216, R240). -/
theorem invCursor_dispatch {s : State} (h : s.phase = .dispatch) :
    InvCursor s ↔ 16 ≤ s.cursor.toNat ∧ s.cursor = s.inLen ∧ s.inLen.toNat ≤ s.params.maxFrameLen ∧
      s.tidx.toNat ≤ s.params.maxTlvs ∧ s.didx.toNat ≤ s.tidx.toNat := by
  rw [InvCursor, h]

/-- While not BUSY, `InvCursor` does not depend on the inputs. -/
theorem InvCursor.of_quiet {s t : State} (h : InvCursor s) (hquiet : s.phase.busy = false)
    (hphase : t.phase = s.phase) (hparams : t.params = s.params) (hcnt : sameCounters s t) : InvCursor t := by
  obtain ⟨hcursor, htidx, hdidx, -⟩ := hcnt
  unfold InvCursor at h ⊢
  rw [hphase, hcursor, htidx, hdidx, hparams]
  cases hp : s.phase with
  | idle | error => trivial
  | done => rwa [hp] at h
  | classify | header | seg | dispatch =>
    rw [hp] at hquiet
    cases hquiet

/-- Outside ERROR no error is held (R34). -/
theorem InvErr.none {s : State} (h : InvErr s) (hphase : s.phase ≠ .error) : s.errCode = .none ∧ s.errTag = 0 := by
  obtain ⟨hcode, htag⟩ := h
  have hnone : s.errCode = .none := by
    by_contra hne
    exact hphase (hcode.mp hne)
  rw [hnone, if_neg (by decide)] at htag
  exact ⟨hnone, htag⟩

/-- A state outside ERROR without an error meets `InvErr`. -/
theorem invErr_of_none {s : State} (h : s.errCode = .none ∧ s.errTag = 0) (hphase : s.phase ≠ .error) :
    InvErr s := by
  obtain ⟨hcode, htag⟩ := h
  refine ⟨⟨fun hne => absurd hcode hne, fun he => absurd he hphase⟩, ?_⟩
  rw [hcode, if_neg (by decide)]
  exact htag

/-- Outside DISPATCH, PERR and PFE are not tied to each other (R243). -/
theorem not_dispatch_of_quiet {s : State} {P : Prop} (hquiet : s.phase.busy = false) (h : s.phase = .dispatch) : P := by
  rw [h] at hquiet
  cases hquiet

/-! The sum of the lengths -/

/-- The lengths of no entries. -/
@[simp] theorem State.lenSum_zero (s : State) : s.lenSum 0 = 0 := rfl

/-- The lengths of one entry more (R222). -/
theorem State.lenSum_succ (s : State) (n : Nat) : s.lenSum (n + 1) = s.lenSum n + (s.entry n).len.toNat := by
  simp [State.lenSum, List.range_succ]

/-- The sum depends on the lengths of those entries only. -/
theorem State.lenSum_congr {s t : State} {n : Nat} (h : ∀ j < n, (t.entry j).len = (s.entry j).len) :
    t.lenSum n = s.lenSum n := by
  induction n with
  | zero => rfl
  | succ n ih => rw [State.lenSum_succ, State.lenSum_succ, ih fun j hj => h j (by omega), h n (by omega)]

/-- The sum grows with the number of entries. -/
theorem State.lenSum_mono (s : State) {m n : Nat} (h : m ≤ n) : s.lenSum m ≤ s.lenSum n := by
  induction n, h using Nat.le_induction with
  | base => exact Nat.le_refl _
  | succ n _ ih => rw [State.lenSum_succ]; omega

/-! Reset, and an error -/

/-- A block just reset meets the invariant, whatever the parameters and the model's own fields (R382). -/
theorem inv_resetWith {p : Params} (hp : p.valid) (epoch reads : Nat) (schedule : List Input)
    (responses : List Response) :
    Inv { State.reset with
      params := p, epoch := epoch, reads := reads, schedule := schedule, responses := responses } :=
  ⟨hp, ⟨⟨.nil, nofun⟩, ⟨.nil, nofun⟩, ⟨.nil, nofun⟩⟩, ⟨rfl, rfl, rfl, rfl, rfl⟩, invErr_of_none ⟨rfl, rfl⟩ (by simp),
    trivial, nofun, ⟨nofun, fun _ => rfl, nofun⟩, ⟨nofun, fun _ => ⟨rfl, rfl⟩⟩⟩

/-- `rst` leads to the invariant (R380). -/
theorem Inv.rst {s : State} (h : Inv s) : Inv s.rst := by
  obtain ⟨hvalid, -⟩ := h
  exact inv_resetWith hvalid _ _ _ _

/-- The error entry meets the invariant when code and tag belong together (R166, R341). -/
theorem inv_raise {s : State} {e : ErrCode} {tag : Byte} (hvalid : s.params.valid) (hstores : InvStores s)
    (he : e ≠ .none)
    (htag : if e = .truncatedTlvPayload then tag = 4 ∨ tag = 5 ∨ tag = 18 ∨ tag = 24 else tag = 0) :
    Inv (s.raise e tag) :=
  ⟨hvalid, hstores, ⟨rfl, rfl, rfl, rfl, rfl⟩, ⟨⟨fun _ => rfl, fun _ => he⟩, htag⟩, trivial, nofun,
    ⟨nofun, fun _ => rfl, nofun⟩, ⟨nofun, nofun⟩⟩

/-! The parser's moves -/

/-- Writing one KIND keeps the stores in canonical form. -/
theorem InvStores.setKind {s : State} (h : InvStores s) (hin : s.didx.toNat < s.params.maxTlvs) (k : Kind) :
    InvStores (s.setKind k) := by
  obtain ⟨hibuf, hpbuf, htlvt⟩ := h
  exact ⟨hibuf, hpbuf, Store.wf_set htlvt hin⟩

/-- An entry of the table is left to dispatch (R240). -/
theorem InvCursor.didx_lt {s : State} (h : InvCursor s) (hphase : s.phase = .dispatch) (hleft : s.didx ≠ s.tidx) :
    s.didx.toNat < s.tidx.toNat ∧ s.tidx.toNat ≤ s.params.maxTlvs := by
  obtain ⟨-, -, -, htidx, hdidx⟩ := (invCursor_dispatch hphase).mp h
  exact ⟨by bv_omega, htidx⟩

/-- CLASSIFY passes (R186). -/
theorem Inv.accept {s : State} (h : Inv s) (hphase : s.phase = .classify) : Inv { s with phase := .header } := by
  obtain ⟨hvalid, hstores, hres, herr, hcur, -, ⟨-, hperr, -⟩, hirq, -⟩ := h
  exact ⟨hvalid, hstores, (invResults_cleared (.inr (.inl hphase))).mp hres,
    invErr_of_none (herr.none (by rw [hphase]; decide)) (by simp), (invCursor_zero (.inl hphase)).mp hcur, nofun,
    ⟨nofun, fun _ => hperr (by rw [hphase]; rfl), nofun⟩, ⟨fun _ => hirq (by rw [hphase]; rfl), nofun⟩⟩

/-- HEADER passes: the stream starts at 16 with an empty table (R206). -/
theorem Inv.loadHeader {s : State} (h : Inv s) (hphase : s.phase = .header) (h16 : 16 ≤ s.inLen.toNat)
    (hmax : s.inLen.toNat ≤ s.params.maxFrameLen) : Inv s.loadHeader := by
  obtain ⟨hvalid, hstores, hres, herr, hcur, -, ⟨-, hperr, -⟩, hirq, -⟩ := h
  obtain ⟨-, -, -, -, hcount⟩ := (invResults_cleared (.inr (.inr (.inl hphase)))).mp hres
  obtain ⟨-, htidx, hdidx, hpwr⟩ := (invCursor_zero (.inr hphase)).mp hcur
  have hnoPerr : s.perr = false := hperr (by rw [hphase]; rfl)
  have ht0 : s.loadHeader.tidx.toNat = 0 := congrArg BitVec.toNat htidx
  have hd0 : s.loadHeader.didx.toNat = 0 := congrArg BitVec.toNat hdidx
  have hp0 : s.loadHeader.pwr.toNat = 0 := congrArg BitVec.toNat hpwr
  refine ⟨hvalid, hstores, hcount, invErr_of_none (herr.none (by rw [hphase]; decide)) (by simp [State.loadHeader]),
    ?cursor, fun _ => ?table, ⟨fun _ => ?kinds, nofun, nofun⟩, ⟨fun _ => hirq (by rw [hphase]; rfl), nofun⟩⟩
  case cursor =>
    exact (invCursor_seg rfl).mpr ⟨Nat.le_refl 16, h16, hmax, by rw [ht0]; exact Nat.zero_le _, hdidx⟩
  case table =>
    rw [ht0, hp0]
    exact ⟨rfl, rfl, nofun⟩
  case kinds =>
    rw [ht0, hd0]
    exact ⟨nofun, nofun, fun hset => absurd (hset.symm.trans hnoPerr) (by decide), nofun⟩

/-- SEG ends at the end of the stream (R216). -/
theorem Inv.endOfStream {s : State} (h : Inv s) (hphase : s.phase = .seg) (hend : s.cursor = s.inLen) :
    Inv { s with phase := .dispatch } := by
  obtain ⟨hvalid, hstores, hres, herr, hcur, htable, ⟨hkinds, -, -⟩, hirq, -⟩ := h
  have htabled : s.phase.tabled = true := by rw [hphase]; rfl
  obtain ⟨h16, -, hmax, htidx, hdidx⟩ := (invCursor_seg hphase).mp hcur
  have hkindsNow := hkinds htabled
  obtain ⟨-, -, hperr⟩ := hkindsNow
  have hnoPerr : s.perr = false := by
    rw [hdidx] at hperr
    exact Bool.eq_false_iff.mpr fun hset => by
      obtain ⟨i, hi, -⟩ := hperr.mp hset
      exact absurd hi (Nat.not_lt_zero i)
  refine ⟨hvalid, hstores, (invResults_running (.inl hphase)).mp hres,
    invErr_of_none (herr.none (by rw [hphase]; decide)) (by simp), ?cursor, fun _ => htable htabled,
    ⟨fun _ => hkinds htabled, nofun, fun _ _ => hnoPerr⟩, ⟨fun _ => hirq (by rw [hphase]; rfl), nofun⟩⟩
  exact (invCursor_dispatch rfl).mpr ⟨h16, hend, hmax, htidx, by rw [hdidx]; exact Nat.zero_le _⟩

/-- The table after SEG records a TLV (R219). -/
theorem State.recordTlv_entry (s : State) (i : Instr) (j : Nat) :
    (s.recordTlv i).entry j =
      if j = s.tidx.toNat then { tag := i.tag, len := i.len, poff := s.pwr, kind := .none } else s.entry j :=
  State.entry_set (s := s) (t := s.recordTlv i) rfl rfl j

/-- The entries before the new one are as they were. -/
theorem State.recordTlv_entry_lt {s : State} (i : Instr) {j : Nat} (hj : j < s.tidx.toNat) :
    (s.recordTlv i).entry j = s.entry j := by
  rw [State.recordTlv_entry, if_neg (by omega)]

/-- The new entry. -/
theorem State.recordTlv_entry_new (s : State) (i : Instr) :
    (s.recordTlv i).entry s.tidx.toNat = { tag := i.tag, len := i.len, poff := s.pwr, kind := .none } := by
  rw [State.recordTlv_entry, if_pos rfl]

/-- The lengths up to an old entry are as they were. -/
theorem State.recordTlv_lenSum {s : State} (i : Instr) {n : Nat} (hn : n ≤ s.tidx.toNat) :
    (s.recordTlv i).lenSum n = s.lenSum n :=
  State.lenSum_congr fun j hj => by rw [State.recordTlv_entry_lt i (by omega)]

/-- The lengths with the new entry. -/
theorem State.recordTlv_lenSum_new (s : State) (i : Instr) :
    (s.recordTlv i).lenSum (s.tidx.toNat + 1) = s.lenSum s.tidx.toNat + i.len.toNat := by
  rw [State.lenSum_succ, State.recordTlv_lenSum i (Nat.le_refl _), State.recordTlv_entry_new]

/-- In SEG no counter wraps when a fetched TLV is recorded: it lies inside the payload (R50, R52; log 18). -/
theorem State.recordTlv_advance {s : State} {i : Instr} (hvalid : s.params.valid) (hcur : InvCursor s)
    (htable : InvTable s) (hphase : s.phase = .seg) (hfetch : fetchTlv s = .ok i) :
    (s.recordTlv i).tidx.toNat = s.tidx.toNat + 1 ∧ (s.recordTlv i).pwr.toNat = s.pwr.toNat + i.len.toNat ∧
      (s.recordTlv i).cursor.toNat = s.cursor.toNat + 3 + i.len.toNat := by
  obtain ⟨-, -, -, htidx, -⟩ := (invCursor_seg hphase).mp hcur
  obtain ⟨hcursor, -, -⟩ := htable (by rw [hphase]; rfl)
  obtain ⟨-, ⟨-, hmaxTlvs⟩, -⟩ := hvalid
  have hin := fetchTlv_inside hfetch
  have hinLen := s.inLen.isLt
  simp only [State.recordTlv]
  refine ⟨?_, ?_, ?_⟩ <;> bv_omega

/-- The new TLV extends the segmentation: its copy goes where the copies before it end (R222). -/
theorem InvTable.record {s : State} {i : Instr} (h : InvTable s) (hvalid : s.params.valid) (hcur : InvCursor s)
    (hphase : s.phase = .seg) (hfetch : fetchTlv s = .ok i) : InvTable (s.recordTlv i) := fun _ => by
  obtain ⟨htidx', hpwr', hcursor'⟩ := State.recordTlv_advance hvalid hcur h hphase hfetch
  obtain ⟨hcursor, hpwr, hpoff⟩ := h (by rw [hphase]; rfl)
  rw [htidx', hpwr', hcursor', State.recordTlv_lenSum_new]
  refine ⟨by omega, by omega, fun j hj => ?_⟩
  rw [State.recordTlv_lenSum i (by omega)]
  rcases Nat.lt_succ_iff_lt_or_eq.mp hj with hlt | rfl
  · rw [State.recordTlv_entry_lt i hlt]
    exact hpoff j hlt
  · rw [State.recordTlv_entry_new]
    exact hpwr

/-- In SEG no entry has a KIND yet, the new one neither, and PERR is 0 (R219). -/
theorem InvKinds.record {s : State} {i : Instr} (h : InvKinds s) (hphase : s.phase = .seg)
    (htidx' : (s.recordTlv i).tidx.toNat = s.tidx.toNat + 1) (hdidx : s.didx = 0) : InvKinds (s.recordTlv i) := by
  have htabled : s.phase.tabled = true := by rw [hphase]; rfl
  obtain ⟨hkinds, -, -⟩ := h
  obtain ⟨-, hnone, hperr⟩ := hkinds htabled
  have hd0 : s.didx.toNat = 0 := congrArg BitVec.toNat hdidx
  have hd0' : (s.recordTlv i).didx.toNat = 0 := hd0
  refine ⟨fun _ => ?_, fun hno => (nomatch htabled.symm.trans hno), fun hd => (nomatch hphase.symm.trans hd)⟩
  rw [htidx', hd0']
  refine ⟨nofun, fun j _ hj => ?none, fun hset => ?flag, nofun⟩
  case none =>
    rcases Nat.lt_succ_iff_lt_or_eq.mp hj with hlt | rfl
    · rw [State.recordTlv_entry_lt i hlt]
      exact hnone j (by omega) hlt
    · rw [State.recordTlv_entry_new]
  case flag =>
    rw [hd0] at hperr
    obtain ⟨j, hj, -⟩ := hperr.mp hset
    exact absurd hj (Nat.not_lt_zero j)

/-- SEG records a TLV (R219 to R222). -/
theorem Inv.record {s : State} {i : Instr} (h : Inv s) (hphase : s.phase = .seg)
    (room : s.tidx.toNat ≠ s.params.maxTlvs) (hfetch : fetchTlv s = .ok i) : Inv (s.recordTlv i) := by
  obtain ⟨hvalid, ⟨hibuf, hpbuf, htlvt⟩, hres, herr, hcur, htable, hkinds, hirq, -⟩ := h
  obtain ⟨htidx', hpwr', hcursor'⟩ := State.recordTlv_advance hvalid hcur htable hphase hfetch
  obtain ⟨h16, -, hmax, htidx, hdidx⟩ := (invCursor_seg hphase).mp hcur
  have hroom : s.tidx.toNat < s.params.maxTlvs := by omega
  have hcur' : InvCursor (s.recordTlv i) := (invCursor_seg (s := s.recordTlv i) hphase).mpr
    ⟨by omega, hcursor'.trans_le (fetchTlv_inside hfetch), hmax, htidx'.trans_le hroom, hdidx⟩
  exact ⟨hvalid, ⟨hibuf, Memory.wf_writeBytes _ _ _ hpbuf, Store.wf_set htlvt hroom⟩,
    (invResults_running (s := s.recordTlv i) (.inl hphase)).mpr ((invResults_running (.inl hphase)).mp hres),
    invErr_of_none (herr.none (by rw [hphase]; decide)) (fun he => nomatch hphase.symm.trans he), hcur',
    htable.record hvalid hcur hphase hfetch, hkinds.record hphase htidx' hdidx,
    ⟨fun _ => hirq (by rw [hphase]; rfl), fun hidle => (nomatch hphase.symm.trans hidle)⟩⟩

/-- DISPATCH finishes (R167). -/
theorem Inv.finish {s : State} (h : Inv s) (hphase : s.phase = .dispatch) (hend : s.didx = s.tidx) :
    Inv s.finish := by
  obtain ⟨hvalid, hstores, hres, herr, hcur, htable, ⟨hkinds, -, -⟩, -, -⟩ := h
  have htabled : s.phase.tabled = true := by rw [hphase]; rfl
  obtain ⟨h16, hcursor, hmax, htidx, -⟩ := (invCursor_dispatch hphase).mp hcur
  exact ⟨hvalid, hstores, rfl, invErr_of_none (herr.none (by rw [hphase]; decide)) (by simp),
    ⟨h16, hcursor ▸ hmax, htidx, hend⟩, fun _ => htable htabled, ⟨fun _ => hkinds htabled, nofun, nofun⟩,
    ⟨nofun, nofun⟩⟩

/-- Dispatch changes the KIND of an entry and nothing else of it (R240). -/
theorem State.dispatchEntry_fields (s : State) (k : Kind) (perr : Bool) (j : Nat) :
    ((s.dispatchEntry k perr).entry j).tag = (s.entry j).tag ∧
      ((s.dispatchEntry k perr).entry j).len = (s.entry j).len ∧
      ((s.dispatchEntry k perr).entry j).poff = (s.entry j).poff := by
  rw [State.dispatchEntry_entry]
  split
  · rename_i hj
    rw [hj]
    exact ⟨rfl, rfl, rfl⟩
  · exact ⟨rfl, rfl, rfl⟩

/-- Dispatch keeps the lengths. -/
theorem State.dispatchEntry_lenSum (s : State) (k : Kind) (perr : Bool) (n : Nat) :
    (s.dispatchEntry k perr).lenSum n = s.lenSum n :=
  State.lenSum_congr fun j _ => by
    obtain ⟨-, hlen, -⟩ := s.dispatchEntry_fields k perr j
    exact hlen

/-- With an entry left, DIDX does not wrap (log 18). -/
theorem State.dispatchEntry_didx {s : State} (hlt : s.didx.toNat < s.tidx.toNat) (k : Kind) (perr : Bool) :
    (s.dispatchEntry k perr).didx.toNat = s.didx.toNat + 1 := by
  show (s.didx + 1).toNat = _
  bv_omega

/-- Dispatch keeps the segmentation: lengths and offsets are as they were. -/
theorem InvTable.dispatchEntry {s : State} (h : InvTable s) (k : Kind) (perr : Bool) :
    InvTable (s.dispatchEntry k perr) := fun htabled => by
  obtain ⟨hcursor, hpwr, hpoff⟩ := h htabled
  refine ⟨hcursor, hpwr.trans (State.dispatchEntry_lenSum ..).symm, fun j hj => ?_⟩
  obtain ⟨-, -, hpoff'⟩ := s.dispatchEntry_fields k perr j
  rw [hpoff', State.dispatchEntry_lenSum]
  exact hpoff j hj

/-- Dispatch gives one entry more its KIND, and PERR is set exactly when a dispatched entry is short
(R240, R241, R243). -/
theorem InvKinds.dispatchEntry {s : State} (h : InvKinds s) (hphase : s.phase = .dispatch)
    (hlt : s.didx.toNat < s.tidx.toNat) {perr : Bool}
    (hset : perr = true ↔ s.perr = true ∨ s.nextKind = .truncatedPayload) (hpfe : s.pfe = true → perr = false) :
    InvKinds (s.dispatchEntry s.nextKind perr) := by
  have htabled : s.phase.tabled = true := by rw [hphase]; rfl
  obtain ⟨hkinds, -, -⟩ := h
  obtain ⟨hdone, hnone, hperr⟩ := hkinds htabled
  have hsame {j : Nat} (hj : j ≠ s.didx.toNat) : (s.dispatchEntry s.nextKind perr).entry j = s.entry j := by
    rw [State.dispatchEntry_entry, if_neg hj]
  have hnew : ((s.dispatchEntry s.nextKind perr).entry s.didx.toNat).kind = s.nextKind := by
    rw [State.dispatchEntry_entry, if_pos rfl]
  refine ⟨fun _ => ?_, fun hno => (nomatch htabled.symm.trans hno), fun _ => hpfe⟩
  rw [State.dispatchEntry_didx hlt]
  refine ⟨fun j hj => ?done, fun j hj hjt => ?left, hset.trans ⟨?set, ?clear⟩⟩
  case done =>
    rcases Nat.lt_succ_iff_lt_or_eq.mp hj with hjlt | rfl
    · rw [hsame (by omega)]
      exact hdone j hjlt
    · obtain ⟨htag, hlen, -⟩ := s.dispatchEntry_fields s.nextKind perr s.didx.toNat
      rw [hnew, htag, hlen]
      rfl
  case left =>
    rw [hsame (by omega)]
    exact hnone j (by omega) hjt
  case set =>
    rintro (hold | hshort)
    · obtain ⟨j, hj, hk⟩ := hperr.mp hold
      exact ⟨j, by omega, by rw [hsame (by omega)]; exact hk⟩
    · exact ⟨s.didx.toNat, Nat.lt_succ_self _, hnew.trans hshort⟩
  case clear =>
    rintro ⟨j, hj, hk⟩
    rcases Nat.lt_succ_iff_lt_or_eq.mp hj with hjlt | rfl
    · rw [hsame (by omega)] at hk
      exact .inl (hperr.mpr ⟨j, hjlt, hk⟩)
    · exact .inr (hnew.symm.trans hk)

/-- DISPATCH examines an entry and goes on; PERR says whether it or one before it was short (R240 to R243). -/
theorem Inv.dispatchEntry {s : State} (h : Inv s) (hphase : s.phase = .dispatch) (hleft : s.didx ≠ s.tidx)
    {perr : Bool} (hset : perr = true ↔ s.perr = true ∨ s.nextKind = .truncatedPayload)
    (hpfe : s.pfe = true → perr = false) : Inv (s.dispatchEntry s.nextKind perr) := by
  obtain ⟨hvalid, hstores, hres, herr, hcur, htable, hkinds, hirq, -⟩ := h
  obtain ⟨hlt, htidx⟩ := hcur.didx_lt hphase hleft
  obtain ⟨h16, hcursor, hmax, -, -⟩ := (invCursor_dispatch hphase).mp hcur
  have hcur' : InvCursor (s.dispatchEntry s.nextKind perr) := (invCursor_dispatch (s := s.dispatchEntry _ _) hphase).mpr
    ⟨h16, hcursor, hmax, htidx, (State.dispatchEntry_didx hlt _ _).trans_le hlt⟩
  exact ⟨hvalid, hstores.setKind (by omega) _,
    (invResults_running (s := s.dispatchEntry _ _) (.inr hphase)).mpr ((invResults_running (.inr hphase)).mp hres),
    invErr_of_none (herr.none (by rw [hphase]; decide)) (fun he => nomatch hphase.symm.trans he), hcur',
    htable.dispatchEntry _ _, hkinds.dispatchEntry hphase hlt hset hpfe,
    ⟨fun _ => hirq (by rw [hphase]; rfl), fun hidle => (nomatch hphase.symm.trans hidle)⟩⟩

/-- Every move of the parser keeps the invariant. -/
theorem ParserMove.inv {s t : State} (hmove : ParserMove s t) (h : Inv s) : Inv t := by
  have hparts := h
  obtain ⟨hvalid, hstores, -, -, hcur, -, ⟨-, -, hdispatch⟩, -⟩ := hparts
  cases hmove with
  | quiet hquiet => exact h
  | fail e hbusy hphase he =>
    obtain ⟨hnone, hpayload⟩ := he
    exact inv_raise hvalid hstores hnone (by rw [if_neg hpayload])
  | accept hphase hok => exact h.accept hphase
  | header hphase h16 hmax => exact h.loadHeader hphase h16 hmax
  | endOfStream hphase hend => exact h.endOfStream hphase hend
  | record i hphase room hfetch => exact h.record hphase room hfetch
  | finish hphase hend => exact h.finish hphase hend
  | decoded hphase hleft hfull =>
    exact h.dispatchEntry hphase hleft ⟨.inl, fun hor => hor.resolve_right hfull⟩ (hdispatch hphase)
  | short hphase hleft hshort hpfe =>
    rw [← hshort]
    exact h.dispatchEntry hphase hleft ⟨fun _ => .inr hshort, fun _ => rfl⟩
      fun hset => nomatch hset.symm.trans hpfe
  | shortFail hphase hleft hshort hpfe =>
    obtain ⟨hlt, htidx⟩ := hcur.didx_lt hphase hleft
    exact inv_raise hvalid (hstores.setKind (by omega) _) (by decide)
      (by rw [if_pos rfl]; exact payloadKind_truncated hshort)

/-! The host's moves -/

/-- START: everything a decode writes is cleared (R162). -/
theorem Inv.start {s : State} (h : Inv s) : Inv s.start := by
  obtain ⟨hvalid, hstores, -⟩ := h
  exact ⟨hvalid, hstores, ⟨rfl, rfl, rfl, rfl, rfl⟩, invErr_of_none ⟨rfl, rfl⟩ (by simp), ⟨rfl, rfl, rfl, rfl⟩, nofun,
    ⟨nofun, fun _ => rfl, nofun⟩, ⟨fun _ => rfl, nofun⟩⟩

/-- Every move of the host keeps the invariant. -/
theorem HostMove.inv {s t : State} {op : HostOp} (hmove : HostMove s op t) (h : Inv s) : Inv t := by
  have hparts := h
  obtain ⟨hvalid, ⟨hibuf, hpbuf, htlvt⟩, hres, herr, hcur, htable, ⟨hkinds, hperr, hdispatch⟩, hirq, hidle⟩ := hparts
  cases hmove with
  | answer r n => exact h
  | drop w a d hbusy hlegal =>
    exact ⟨hvalid, ⟨hibuf, hpbuf, htlvt⟩, hres, herr, hcur, htable, ⟨hkinds, hperr, hdispatch⟩, hirq, fun hi => by
      rw [show s.phase = .idle from hi] at hbusy
      cases hbusy⟩
  | start d hquiet hstart =>
    exact Inv.start (s := { s with ie := d.getLsbD 1, pfe := d.getLsbD 2 })
      ⟨hvalid, ⟨hibuf, hpbuf, htlvt⟩, hres, herr, hcur, htable, ⟨hkinds, hperr, not_dispatch_of_quiet hquiet⟩, hirq, hidle⟩
  | control hquiet ie pfe =>
    exact ⟨hvalid, ⟨hibuf, hpbuf, htlvt⟩, hres, herr, hcur, htable, ⟨hkinds, hperr, not_dispatch_of_quiet hquiet⟩, hirq,
      hidle⟩
  | status d hquiet =>
    refine ⟨hvalid, ⟨hibuf, hpbuf, htlvt⟩, hres, herr, hcur, htable, ⟨hkinds, hperr, not_dispatch_of_quiet hquiet⟩,
      fun hb => (nomatch hquiet.symm.trans hb), fun hi => ?_⟩
    obtain ⟨hirqPend, hwdrop⟩ := hidle hi
    exact ⟨by simp [State.writeStatus, hirqPend], by simp [State.writeStatus, hwdrop]⟩
  | input hquiet len ftype lo hi sel =>
    exact ⟨hvalid, ⟨hibuf, hpbuf, htlvt⟩, hres, herr, hcur.of_quiet hquiet rfl rfl ⟨rfl, rfl, rfl, rfl⟩, htable,
      ⟨hkinds, hperr, not_dispatch_of_quiet hquiet⟩, hirq, hidle⟩
  | ibuf hquiet off bs =>
    exact ⟨hvalid, ⟨Memory.wf_writeBytes _ _ _ hibuf, hpbuf, htlvt⟩, hres, herr, hcur, htable,
      ⟨hkinds, hperr, not_dispatch_of_quiet hquiet⟩, hirq, hidle⟩

/-! The obligations -/

/-- Settles O54, by who moves. -/
theorem stepKeepsInvariant : Obligations.StepKeepsInvariant := by
  intro s t h hstep
  have hpopped : Inv s.popped := h
  obtain ⟨-, hmove⟩ | ⟨op, later, -, hmove⟩ | ⟨later, -, rfl⟩ := step_moves hstep
  · exact hmove.inv hpopped
  · exact hmove.inv hpopped
  · exact hpopped.rst

/-- Settles O55: after reset nothing is written and no decode runs. -/
theorem resetMeetsInvariants : Obligations.ResetMeetsInvariants :=
  ⟨inv_resetWith (by decide) 0 0 [] [], fun h => by simp at h, fun h => by simp at h, fun h => by simp [Phase.tabled] at h⟩

end Sys2Proof.Machine
end

-- ==== O56, O57: payload copies and the accepted header (R204, R219, R222) ====
section

namespace Sys2Proof.Machine

/-! Payload copies -/

/-- The TLV a fetch answers, byte by byte, and its place inside the payload (R215, R218). -/
theorem fetchTlv_bytes {s : State} {i : Instr} (h : fetchTlv s = .ok i) :
    i.tag = s.ibufByte s.cursor.toNat ∧
      i.len = le16 (s.ibufByte (s.cursor.toNat + 1)) (s.ibufByte (s.cursor.toNat + 2)) ∧
      i.value = (List.range i.len.toNat).map (fun k => s.ibufByte (s.cursor.toNat + 3 + k)) ∧
      s.cursor.toNat + 3 + i.len.toNat ≤ s.inLen.toNat ∧ s.inLen.toNat ≤ s.params.maxFrameLen := by
  obtain ⟨-, he⟩ | ⟨-, -, he⟩ | ⟨-, -, -, he⟩ | ⟨hfits, hmax, hok⟩ := fetchTlv_cases s rfl
  · cases h.symm.trans he
  · cases h.symm.trans he
  · cases h.symm.trans he
  · cases h.symm.trans hok
    rw [instrOf_tag, instrOf_len, instrOf_value]
    exact ⟨rfl, rfl, rfl, hfits, hmax⟩

/-- Entry `j` and its payload copy are the bytes of the payload at the entry's cursor (R219, R222). -/
def State.copied (s : State) (j : Nat) : Prop :=
  (s.entry j).tag = s.ibufByte (s.entryCursor j) ∧
    (s.entry j).len = le16 (s.ibufByte (s.entryCursor j + 1)) (s.ibufByte (s.entryCursor j + 2)) ∧
    ∀ k < (s.entry j).len.toNat, s.pbufByte ((s.entry j).poff.toNat + k) = s.ibufByte (s.entryCursor j + 3 + k)

/-- Outside SEG and DISPATCH, `CopyInv` says nothing. -/
theorem copyInv_of_phase {s : State} (h : s.phase ≠ .seg ∧ s.phase ≠ .dispatch) : CopyInv s :=
  fun hphase => absurd hphase (by simp [h])

/-- `copied` depends on tag, length, POFF and the lengths before the entry, and on the bytes copied. -/
theorem State.copied_congr {s t : State} {j : Nat} (h : s.copied j)
    (hentry : (t.entry j).tag = (s.entry j).tag ∧ (t.entry j).len = (s.entry j).len ∧
      (t.entry j).poff = (s.entry j).poff)
    (hsum : t.lenSum j = s.lenSum j) (hibuf : ∀ a, t.ibufByte a = s.ibufByte a)
    (hpbuf : ∀ k < (s.entry j).len.toNat,
      t.pbufByte ((s.entry j).poff.toNat + k) = s.pbufByte ((s.entry j).poff.toNat + k)) : t.copied j := by
  obtain ⟨htag, hlen, hbytes⟩ := h
  obtain ⟨htag', hlen', hpoff'⟩ := hentry
  have hcursor : t.entryCursor j = s.entryCursor j := by rw [State.entryCursor, State.entryCursor, hsum]
  unfold State.copied
  rw [htag', hlen', hpoff', hcursor]
  simp only [hibuf]
  exact ⟨htag, hlen, fun k hk => (hpbuf k hk).trans (hbytes k hk)⟩

/-- The payload copy of the TLV that SEG records is the bytes after its tag header (R222). -/
theorem State.recordTlv_pbufByte_new {s : State} {i : Instr} (room : s.tidx.toNat ≠ s.params.maxTlvs)
    (hfetch : fetchTlv s = .ok i) {k : Nat} (hk : k < i.len.toNat)
    (hin : s.pwr.toNat + k < s.params.maxFrameLen) :
    (s.recordTlv i).pbufByte (s.pwr.toNat + k) = s.ibufByte (s.cursor.toNat + 3 + k) := by
  obtain ⟨-, -, hvalue, -, -⟩ := fetchTlv_bytes hfetch
  have hvlen : i.value.length = i.len.toNat := by rw [hvalue, List.length_map, List.length_range]
  rw [← State.acceptTlv_eq_recordTlv room, State.acceptTlv_copied room _ _ (hvlen.symm ▸ hk) hin]
  simp only [hvalue, List.getElem_map, List.getElem_range]

/-- SEG copies the TLV at the cursor, and the copies before it lie below PWR (R222). -/
theorem CopyInv.record {s : State} {i : Instr} (hinv : Inv s) (h : CopyInv s) (hphase : s.phase = .seg)
    (room : s.tidx.toNat ≠ s.params.maxTlvs) (hfetch : fetchTlv s = .ok i) : CopyInv (s.recordTlv i) := by
  obtain ⟨hvalid, -, -, -, hcur, htable, -⟩ := hinv
  obtain ⟨htidx', -, -⟩ := State.recordTlv_advance hvalid hcur htable hphase hfetch
  obtain ⟨hcursor, hpwr, hpoff⟩ := htable (by rw [hphase]; rfl)
  obtain ⟨htag, hlen, -, hfits, hmax⟩ := fetchTlv_bytes hfetch
  intro _ j hj
  rw [htidx'] at hj
  rcases Nat.lt_succ_iff_lt_or_eq.mp hj with hlt | rfl
  · have hbelow : (s.entry j).poff.toNat + (s.entry j).len.toNat ≤ s.pwr.toNat := by
      rw [hpoff j hlt, hpwr, ← State.lenSum_succ]
      exact s.lenSum_mono hlt
    refine State.copied_congr (s := s) (h (.inl hphase) j hlt) ?_ (State.recordTlv_lenSum i (by omega))
      (fun _ => rfl) (fun k hk => ?_)
    · rw [State.recordTlv_entry_lt i hlt]
      exact ⟨rfl, rfl, rfl⟩
    · rw [← State.acceptTlv_eq_recordTlv room]
      exact State.acceptTlv_notCopied room _ _ (by omega)
  · have hcursorNew : (s.recordTlv i).entryCursor s.tidx.toNat = s.cursor.toNat := by
      rw [State.entryCursor, State.recordTlv_lenSum i (Nat.le_refl _)]
      omega
    show (s.recordTlv i).copied s.tidx.toNat
    rw [State.copied, State.recordTlv_entry_new, hcursorNew]
    exact ⟨htag, hlen, fun k (hk : k < i.len.toNat) => State.recordTlv_pbufByte_new room hfetch hk (by omega)⟩

/-- DISPATCH changes KIND only (R240, R245). -/
theorem CopyInv.dispatchEntry {s : State} (h : CopyInv s) (hphase : s.phase = .dispatch) (k : Kind) (perr : Bool) :
    CopyInv (s.dispatchEntry k perr) := fun _ j hj =>
  State.copied_congr (s := s) (h (.inr hphase) j hj) (s.dispatchEntry_fields k perr j) (s.dispatchEntry_lenSum k perr j)
    (fun _ => rfl) (fun _ _ => rfl)

/-- Every move of the parser keeps the copies. -/
theorem ParserMove.copyInv {s t : State} (hmove : ParserMove s t) (hinv : Inv s) (h : CopyInv s) : CopyInv t := by
  cases hmove with
  | quiet hquiet => exact h
  | header hphase h16 hmax =>
    obtain ⟨-, -, -, -, hcur, -⟩ := hinv
    obtain ⟨-, htidx, -, -⟩ := (invCursor_zero (.inr hphase)).mp hcur
    intro _ j hj
    rw [show s.loadHeader.tidx = 0 from htidx] at hj
    exact absurd hj (Nat.not_lt_zero j)
  | endOfStream hphase hend => exact fun _ => h (.inl hphase)
  | record i hphase room hfetch => exact h.record hinv hphase room hfetch
  | decoded hphase hleft hfull => exact h.dispatchEntry hphase _ _
  | short hphase hleft hshort hpfe => exact h.dispatchEntry hphase _ _
  | fail | accept | finish | shortFail => exact copyInv_of_phase (by simp)

/-- Every move of the host keeps the copies: while SEG or DISPATCH runs it writes nothing (R392). -/
theorem HostMove.copyInv {s t : State} {op : HostOp} (hmove : HostMove s op t) (h : CopyInv s) : CopyInv t := by
  have quiet {u : State} (hquiet : s.phase.busy = false) (hu : u.phase = s.phase) : CopyInv u :=
    copyInv_of_phase (by rw [hu]; constructor <;> intro hp <;> rw [hp] at hquiet <;> cases hquiet)
  cases hmove with
  | answer | drop => exact h
  | start => exact copyInv_of_phase (by simp)
  | control hquiet | status _ hquiet | input hquiet | ibuf hquiet => exact quiet hquiet rfl

/-- Settles O56, by who moves. -/
theorem stepKeepsPayloadCopies : Obligations.StepKeepsPayloadCopies := by
  intro s t hinv h hstep
  have hinv' : Inv s.popped := hinv
  have h' : CopyInv s.popped := h
  obtain ⟨-, hmove⟩ | ⟨op, later, -, hmove⟩ | ⟨later, -, rfl⟩ := step_moves hstep
  · exact hmove.copyInv hinv' h'
  · exact hmove.copyInv h'
  · exact copyInv_of_phase (by simp)

/-! The accepted header -/

/-- Outside HEADER and the phases with a table, `HeaderInv` says nothing. -/
theorem headerInv_of_phase {s : State} (h : s.phase ≠ .header ∧ s.phase.tabled = false) : HeaderInv s := by
  obtain ⟨hheader, htabled⟩ := h
  exact ⟨fun hp => absurd hp hheader, fun hp => nomatch hp.symm.trans htabled⟩

/-- `HeaderInv` after a move that keeps the phase outside HEADER, and HDR0. -/
theorem HeaderInv.of_hdr0 {s t : State} (h : HeaderInv s) (htabled : s.phase.tabled = true)
    (hphase : t.phase ≠ .header) (hhdr0 : t.hdr0 = s.hdr0) : HeaderInv t := by
  obtain ⟨-, hword⟩ := h
  exact ⟨fun hp => absurd hp hphase, fun _ => hhdr0.trans (hword htabled)⟩

/-- HDR0 of accepted opening bytes (R42, R204). -/
theorem hdr0_of_bytes {s : State} (h : s.ibufByte 0 = 127 ∧ s.ibufByte 1 = 0x00 ∧ s.ibufByte 2 = 0x17 ∧
    s.ibufByte 3 = 0xF2) : s.loadHeader.hdr0 = 0xF217007F := by
  obtain ⟨h0, h1, h2, h3⟩ := h
  have hbytes : (List.range 4).map (fun k => s.ibufByte (0 + k)) = [127, 0x00, 0x17, 0xF2] := by
    simp [List.range, List.range.loop, h0, h1, h2, h3]
  simp only [State.loadHeader, hbytes]
  decide

/-- Every move of the parser keeps the accepted header. -/
theorem ParserMove.headerInv {s t : State} (hmove : ParserMove s t) (h : HeaderInv s) : HeaderInv t := by
  cases hmove with
  | quiet hquiet => exact h
  | fail | shortFail => exact headerInv_of_phase ⟨by simp, rfl⟩
  | accept hphase hok =>
    obtain ⟨-, -, hbytes⟩ := classifyError_none hok
    exact ⟨fun _ => hbytes, nofun⟩
  | header hphase h16 hmax =>
    obtain ⟨hbytes, -⟩ := h
    exact ⟨nofun, fun _ => hdr0_of_bytes (hbytes hphase)⟩
  | record i hphase room hfetch =>
    exact h.of_hdr0 (by rw [hphase]; rfl) (fun hp => nomatch hphase.symm.trans hp) rfl
  | endOfStream hphase => exact h.of_hdr0 (by rw [hphase]; rfl) (by simp) rfl
  | finish hphase => exact h.of_hdr0 (by rw [hphase]; rfl) (by simp) rfl
  | decoded hphase => exact h.of_hdr0 (by rw [hphase]; rfl) (fun hp => nomatch hphase.symm.trans hp) rfl
  | short hphase => exact h.of_hdr0 (by rw [hphase]; rfl) (fun hp => nomatch hphase.symm.trans hp) rfl

/-- Every move of the host keeps the accepted header. -/
theorem HostMove.headerInv {s t : State} {op : HostOp} (hmove : HostMove s op t) (h : HeaderInv s) :
    HeaderInv t := by
  cases hmove with
  | start => exact headerInv_of_phase ⟨by simp, rfl⟩
  | ibuf hquiet off bs =>
    obtain ⟨-, hword⟩ := h
    refine ⟨fun hp => ?_, hword⟩
    rw [show s.phase = .header from hp] at hquiet
    cases hquiet
  | answer | drop | control | status | input => exact h

/-- Settles O57: HEADER copies the opening bytes that CLASSIFY accepted. -/
theorem stepKeepsAcceptedHeader : Obligations.StepKeepsAcceptedHeader := by
  refine ⟨fun s t h hstep => ?kept, fun s h hdone => ?shown⟩
  case kept =>
    have h' : HeaderInv s.popped := h
    obtain ⟨-, hmove⟩ | ⟨op, later, -, hmove⟩ | ⟨later, -, rfl⟩ := step_moves hstep
    · exact hmove.headerInv h'
    · exact hmove.headerInv h'
    · exact headerInv_of_phase ⟨by simp, rfl⟩
  case shown =>
    obtain ⟨-, hword⟩ := h
    rw [hword (by rw [hdone]; rfl)]
    decide

end Sys2Proof.Machine
end

-- ==== O58, O59: the parser and the host do not disturb each other (R96, R161, R172, R392) ====
section

namespace Sys2Proof.Machine

/-! The record of the host in a state -/

/-- The state with the four fields that only the host and the schedule are concerned with set to these values. -/
def State.withRecord (wdrop : Bool) (reads : Nat) (schedule : List Input) (responses : List Response) (s : State) :
    State :=
  { s with wdrop := wdrop, reads := reads, schedule := schedule, responses := responses }

/-- A state is what the parser sees of it, with the record put back. -/
theorem State.withRecord_parserView (s : State) :
    s.parserView.withRecord s.wdrop s.reads s.schedule s.responses = s := rfl

/-- The parser sees nothing of the record. -/
theorem State.parserView_withRecord (s : State) (w : Bool) (n : Nat) (sch : List Input) (r : List Response) :
    (s.withRecord w n sch r).parserView = s.parserView := rfl

section Record

variable (w : Bool) (n : Nat) (sch : List Input) (r : List Response) (s : State)

/-- The CLASSIFY step takes the record along (R172). -/
theorem classifyStep_withRecord : classifyStep (s.withRecord w n sch r) = (classifyStep s).withRecord w n sch r := by
  obtain ⟨e, he, ht⟩ | ⟨hok, ht⟩ := classifyStep_cases s <;> rw [ht]
  · exact classifyStep_raise (s := s.withRecord w n sch r) he
  · exact classifyStep_pass (s := s.withRecord w n sch r) hok

/-- The HEADER step takes the record along. -/
theorem headerStep_withRecord : headerStep (s.withRecord w n sch r) = (headerStep s).withRecord w n sch r := by
  rcases Nat.lt_or_ge s.inLen.toNat 16 with h16 | h16
  · rw [headerStep_short h16]
    exact headerStep_short (s := s.withRecord w n sch r) h16
  rcases Nat.lt_or_ge s.params.maxFrameLen s.inLen.toNat with hmax | hmax
  · rw [headerStep_long h16 hmax]
    exact headerStep_long (s := s.withRecord w n sch r) h16 hmax
  · rw [headerStep_ok h16 hmax]
    exact headerStep_ok (s := s.withRecord w n sch r) h16 hmax

/-- Accepting a TLV takes the record along. -/
theorem acceptTlv_withRecord (i : Instr) :
    (s.withRecord w n sch r).acceptTlv i.tag i.len i.value =
      (s.acceptTlv i.tag i.len i.value).withRecord w n sch r := by
  by_cases room : s.tidx.toNat = s.params.maxTlvs
  · rw [State.acceptTlv_full room]
    exact State.acceptTlv_full (s := s.withRecord w n sch r) room _ _ _
  · rw [State.acceptTlv_room room]
    exact State.acceptTlv_room (s := s.withRecord w n sch r) room _ _ _

/-- The SEG step takes the record along. -/
theorem segStep_withRecord {s t : State} (hphase : s.phase = .seg) (h : segStep s = .next t) :
    segStep (s.withRecord w n sch r) = .next (t.withRecord w n sch r) := by
  by_cases hend : s.cursor = s.inLen
  · rw [segStep_end hend] at h
    cases h
    exact segStep_end (s := s.withRecord w n sch r) hend
  cases hf : fetchTlv s with
  | error e =>
    rw [segStep_failed hend hf] at h
    cases h
    exact segStep_failed (s := s.withRecord w n sch r) hend hf
  | ok i =>
    rw [segStep_fetched hend hf, exec_seg hphase] at h
    cases h
    rw [segStep_fetched (s := s.withRecord w n sch r) hend hf, exec_seg (s := s.withRecord w n sch r) hphase,
      acceptTlv_withRecord]

/-- Dispatching an entry takes the record along. -/
theorem dispatchTlv_withRecord (tag : Byte) (k : Kind) :
    (s.withRecord w n sch r).dispatchTlv tag k = (s.dispatchTlv tag k).withRecord w n sch r := by
  obtain ⟨hk, ht⟩ | ⟨rfl, hpfe, ht⟩ | ⟨rfl, hpfe, ht⟩ := s.dispatchTlv_cases tag k <;> rw [ht]
  · exact State.dispatchTlv_full (s := s.withRecord w n sch r) hk tag
  · exact State.dispatchTlv_short (s := s.withRecord w n sch r) hpfe tag
  · exact State.dispatchTlv_raise (s := s.withRecord w n sch r) hpfe tag

/-- The DISPATCH step takes the record along. -/
theorem dispatchStep_withRecord {s t : State} (hphase : s.phase = .dispatch) (h : dispatchStep s = .next t) :
    dispatchStep (s.withRecord w n sch r) = .next (t.withRecord w n sch r) := by
  by_cases hend : s.didx = s.tidx
  · rw [dispatchStep_finish hend] at h
    cases h
    exact dispatchStep_finish (s := s.withRecord w n sch r) hend
  · rw [dispatchStep_entry hend, exec_dispatch hphase] at h
    cases h
    rw [dispatchStep_entry (s := s.withRecord w n sch r) hend, exec_dispatch (s := s.withRecord w n sch r) hphase,
      ← dispatchTlv_withRecord]
    rfl

/-- The parser's turn takes the record along: it neither reads nor writes it (R161, R172). -/
theorem parserStep_withRecord {s t : State} (h : parserStep s = .next t) :
    parserStep (s.withRecord w n sch r) = .next (t.withRecord w n sch r) := by
  cases hbusy : s.phase.busy with
  | false =>
    rw [parserStep_quiescent hbusy] at h
    cases h
    exact parserStep_quiescent (s := s.withRecord w n sch r) hbusy
  | true =>
    cases hp : s.phase with
    | classify =>
      rw [parserStep_classify hp] at h
      cases h
      rw [parserStep_classify (s := s.withRecord w n sch r) hp, classifyStep_withRecord]
    | header =>
      rw [parserStep_header hp] at h
      cases h
      rw [parserStep_header (s := s.withRecord w n sch r) hp, headerStep_withRecord]
    | seg =>
      rw [parserStep_seg hp] at h
      rw [parserStep_seg (s := s.withRecord w n sch r) hp]
      exact segStep_withRecord w n sch r hp h
    | dispatch =>
      rw [parserStep_dispatch hp] at h
      rw [parserStep_dispatch (s := s.withRecord w n sch r) hp]
      exact dispatchStep_withRecord w n sch r hp h
    | idle | done | error =>
      rw [hp] at hbusy
      cases hbusy

end Record

/-- A parser turn from a state goes where a turn from what the parser sees of it goes, with the record of the state
and the turn gone from the schedule (R172). -/
theorem step_parserView {s : State} (turn : s.parserTurn) :
    ∃ v, parserStep s.parserView = .next v ∧
      step s = .next (v.withRecord s.wdrop s.reads s.schedule.tail s.responses) := by
  obtain ⟨v, hv⟩ := parserStep_next s.parserView
  have hpopped := parserStep_withRecord s.wdrop s.reads s.schedule.tail s.responses hv
  exact ⟨v, hv, (step_parser turn).trans hpopped⟩

/-- Settles O58: both steps are the step of the view that the two states share. -/
theorem parserStepIgnoresHostRecord : Obligations.ParserStepIgnoresHostRecord := by
  intro s u turnS turnU hview
  obtain ⟨v, hv, hs⟩ := step_parserView turnS
  obtain ⟨v', hv', hu⟩ := step_parserView turnU
  rw [← hview] at hv'
  cases hv.symm.trans hv'
  exact ⟨_, _, hs, hu, rfl⟩

/-! Runs -/

/-- While BUSY a host transaction changes nothing the parser sees (R392). -/
theorem HostMove.parserView_of_busy {s t : State} {op : HostOp} (hmove : HostMove s op t)
    (hbusy : s.phase.busy = true) : t.parserView = s.parserView := by
  cases hmove with
  | answer | drop => rfl
  | start _ hquiet | control hquiet | status _ hquiet | input hquiet | ibuf hquiet =>
    cases hbusy.symm.trans hquiet

/-- A host transaction takes itself off the schedule and no more. -/
theorem HostMove.schedule_eq {s t : State} {op : HostOp} (hmove : HostMove s op t) : t.schedule = s.schedule := by
  cases hmove <;> rfl

/-- One step of an interleaved decode is a step of the undisturbed one, or none (R96). -/
theorem step_undisturbed {s u : State} (hview : s.parserView = u.parserView) (hu : u.schedule = [])
    (hrst : .rst ∉ s.schedule) (hbusy : s.phase.busy = true) :
    ∃ t m v, step s = .next t ∧ m ≤ 1 ∧ Host.Core.run Sys2Proof.core m u = .next v ∧
      t.parserView = v.parserView ∧ v.schedule = [] ∧ .rst ∉ t.schedule := by
  have htail : .rst ∉ s.schedule.tail := fun hmem => hrst (List.mem_of_mem_tail hmem)
  by_cases turn : s.parserTurn
  · obtain ⟨v, hv, hs⟩ := step_parserView turn
    obtain ⟨v', hv', hstep⟩ := step_parserView (s := u) (.inl hu)
    rw [← hview] at hv'
    cases hv.symm.trans hv'
    exact ⟨_, 1, _, hs, Nat.le_refl 1, run_succ hstep 0, rfl, by rw [hu]; rfl, htail⟩
  · cases hs : s.schedule with
    | nil => exact absurd (.inl hs) turn
    | cons input later =>
      cases input with
      | parser => exact absurd (.inr (by rw [hs]; rfl)) turn
      | rst => exact absurd (by rw [hs]; exact List.mem_cons_self) hrst
      | host op =>
        have hmove := hostMove_hostOp s.popped op
        refine ⟨_, 0, u, step_host hs, Nat.zero_le 1, rfl, (hmove.parserView_of_busy hbusy).trans hview, hu, ?_⟩
        rw [hmove.schedule_eq]
        exact htail

/-- Settles O59, by induction on the number of steps: a parser turn is a step of the undisturbed decode, and a host
transaction is none. -/
theorem interleavedDecodeIsUndisturbed : Obligations.InterleavedDecodeIsUndisturbed := by
  intro k
  induction k with
  | zero => exact fun s u hview _ _ _ => ⟨s, 0, u, rfl, Nat.le_refl 0, rfl, hview⟩
  | succ k ih =>
    intro s u hview hu hrst hbusy
    obtain ⟨t, m, v, hstep, hm, hrun, hview', hv, hrst'⟩ :=
      step_undisturbed hview hu hrst (hbusy 0 (Nat.succ_pos k) s rfl)
    have hbusy' : ∀ j < k, ∀ w, Host.Core.run Sys2Proof.core j t = .next w → w.phase.busy = true :=
      fun j hj w hw => hbusy (j + 1) (by omega) w ((run_succ hstep j).trans hw)
    obtain ⟨t', m', v', hrunT, hm', hrunV, hend⟩ := ih t v hview' hv hrst' hbusy'
    exact ⟨t', m + m', v', (run_succ hstep k).trans hrunT, by omega, (run_add hrun m').trans hrunV, hend⟩

end Sys2Proof.Machine
end

-- ==== O60: a whole decode against the reference function (R169 to R171) ====
section

namespace Sys2Proof.Machine

/-! Runs of the parser alone -/

/-- With nothing scheduled a step is the parser's turn (log 2). -/
theorem step_unscheduled {s : State} (h : s.schedule = []) : step s = parserStep s := by
  have hpopped : s.popped = s := by
    rw [State.popped, h, List.tail_nil, ← h]
  rw [step_parser (.inl h), hpopped]

/-- The HEADER step with nothing scheduled (R200). -/
theorem step_header_unscheduled {s : State} (h : s.schedule = []) (hphase : s.phase = .header) :
    step s = .next (headerStep s) := by
  rw [step_unscheduled h, parserStep_header hphase]

/-- `n` steps lead from `s` to `t`, and the block is BUSY before each of them. -/
def runsBusy (n : Nat) (s t : State) : Prop :=
  Host.Core.run Sys2Proof.core n s = .next t ∧
    ∀ k < n, ∃ u, Host.Core.run Sys2Proof.core k s = .next u ∧ u.phase.busy = true

/-- No step. -/
theorem runsBusy_zero (s : State) : runsBusy 0 s s := ⟨rfl, fun _ hk => absurd hk (Nat.not_lt_zero _)⟩

/-- A step, then more steps. -/
theorem runsBusy_step {s u t : State} {n : Nat} (hbusy : s.phase.busy = true) (hstep : step s = .next u)
    (h : runsBusy n u t) : runsBusy (n + 1) s t := by
  obtain ⟨hrun, hall⟩ := h
  refine ⟨(run_succ hstep n).trans hrun, fun k hk => ?_⟩
  cases k with
  | zero => exact ⟨s, rfl, hbusy⟩
  | succ k =>
    obtain ⟨v, hv, hvb⟩ := hall k (by omega)
    exact ⟨v, (run_succ hstep k).trans hv, hvb⟩

/-- Steps, then more steps. -/
theorem runsBusy_trans {s u t : State} {m n : Nat} (h1 : runsBusy m s u) (h2 : runsBusy n u t) :
    runsBusy (m + n) s t := by
  obtain ⟨hrun1, hall1⟩ := h1
  obtain ⟨hrun2, hall2⟩ := h2
  refine ⟨(run_add hrun1 n).trans hrun2, fun k hk => ?_⟩
  rcases Nat.lt_or_ge k m with hlt | hge
  · exact hall1 k hlt
  · obtain ⟨v, hv, hvb⟩ := hall2 (k - m) (by omega)
    have hsplit := run_add hrun1 (k - m)
    rw [Nat.add_sub_cancel' hge] at hsplit
    exact ⟨v, hsplit.trans hv, hvb⟩

/-! What a decode leaves unchanged on its way, and its failure -/

/-- What SEG and DISPATCH leave alone: inputs, results, ERR, IBUF and the schedule. -/
def sameOutside (s t : State) : Prop :=
  sameInputs s t ∧ sameResults s t ∧ sameErr s t ∧ sameIbuf s t ∧ t.schedule = s.schedule

/-- Nothing changed. -/
theorem sameOutside_refl (s : State) : sameOutside s s :=
  ⟨⟨rfl, rfl, rfl, rfl, rfl, rfl, rfl, rfl⟩, ⟨rfl, rfl, rfl, rfl, rfl⟩, ⟨rfl, rfl⟩, fun _ => rfl, rfl⟩

/-- Recording a TLV (R219 to R222). -/
theorem State.sameOutside_recordTlv (s : State) (i : Instr) : sameOutside s (s.recordTlv i) := sameOutside_refl s

/-- Ending the stream (R216). -/
theorem State.sameOutside_toDispatch (s : State) : sameOutside s { s with phase := .dispatch } := sameOutside_refl s

/-- Dispatching an entry (R240). -/
theorem State.sameOutside_dispatchEntry (s : State) (k : Kind) (perr : Bool) :
    sameOutside s (s.dispatchEntry k perr) := sameOutside_refl s

/-- Unchanged inputs, one after the other. -/
theorem sameInputs_trans {s u t : State} (h1 : sameInputs s u) (h2 : sameInputs u t) : sameInputs s t := by
  obtain ⟨a1, a2, a3, a4, a5, a6, a7, a8⟩ := h1
  obtain ⟨b1, b2, b3, b4, b5, b6, b7, b8⟩ := h2
  exact ⟨b1.trans a1, b2.trans a2, b3.trans a3, b4.trans a4, b5.trans a5, b6.trans a6, b7.trans a7, b8.trans a8⟩

/-- Unchanged bytes, one after the other. -/
theorem sameIbuf_trans {s u t : State} (h1 : sameIbuf s u) (h2 : sameIbuf u t) : sameIbuf s t :=
  fun a => (h2 a).trans (h1 a)

/-- `sameOutside`, one step after the other. -/
theorem sameOutside_trans {s u t : State} (h1 : sameOutside s u) (h2 : sameOutside u t) : sameOutside s t := by
  obtain ⟨i1, ⟨a1, a2, a3, a4, a5⟩, ⟨c1, g1⟩, m1, q1⟩ := h1
  obtain ⟨i2, ⟨b1, b2, b3, b4, b5⟩, ⟨c2, g2⟩, m2, q2⟩ := h2
  exact ⟨sameInputs_trans i1 i2, ⟨b1.trans a1, b2.trans a2, b3.trans a3, b4.trans a4, b5.trans a5⟩,
    ⟨c2.trans c1, g2.trans g1⟩, sameIbuf_trans m1 m2, q2.trans q1⟩

/-- A decode of the inputs of `s` has ended in `t` with this error (R166). -/
def failed (e : ErrCode) (tag : Byte) (s t : State) : Prop :=
  t.phase = .error ∧ t.errCode = e ∧ t.errTag = tag ∧ clearedResults t ∧ t.perr = false ∧ t.irqPend = true ∧
    sameInputs s t ∧ sameIbuf s t

/-- The error entry is a failure of the decode. -/
theorem State.failed_raise (s : State) (e : ErrCode) (tag : Byte) : failed e tag s (s.raise e tag) :=
  ⟨rfl, rfl, rfl, ⟨rfl, rfl, rfl, rfl, rfl⟩, rfl, rfl, ⟨rfl, rfl, rfl, rfl, rfl, rfl, rfl, rfl⟩, fun _ => rfl⟩

/-- A failure later on is a failure of the same inputs. -/
theorem failed_of_same {e : ErrCode} {tag : Byte} {s u t : State} (hin : sameInputs s u) (hibuf : sameIbuf s u)
    (h : failed e tag u t) : failed e tag s t := by
  obtain ⟨hphase, hcode, htag, hres, hperr, hirq, hin', hibuf'⟩ := h
  exact ⟨hphase, hcode, htag, hres, hperr, hirq, sameInputs_trans hin hin', sameIbuf_trans hibuf hibuf'⟩

/-! The reference function, case by case -/

/-- A decoded TLV takes three bytes and its value off the stream (R125). -/
theorem length_of_decode {bytes rest : List Byte} {i : Instr} (h : decode bytes = .ok (i, rest)) :
    bytes.length = 3 + i.len.toNat + rest.length ∧ rest = bytes.drop (3 + i.len.toNat) := by
  obtain ⟨hwf, rfl⟩ := encodeOfDecode bytes i rest h
  have hlen : (encode i).length = 3 + i.len.toNat := by
    rw [← i.wf_iff.mp hwf, encode]
    simp only [List.length_cons]
    omega
  rw [List.length_append, hlen]
  exact ⟨rfl, by rw [← hlen, List.drop_left]⟩

section Segment

variable {maxTlvs fuel idx off : Nat} {bytes rest : List Byte} {i : Instr}

/-- The end of the stream (R216). -/
theorem segmentTlvs_nil (maxTlvs fuel idx off : Nat) : segmentTlvs maxTlvs fuel idx off [] = .ok [] := by
  cases fuel <;> rfl

/-- No whole TLV is left (R217, R218). -/
theorem segmentTlvs_truncated {x : DecodeError} (hne : bytes ≠ []) (h : decode bytes = .error x) :
    segmentTlvs maxTlvs (fuel + 1) idx off bytes = .error .truncatedTlv := by
  obtain ⟨b, bs, rfl⟩ := List.exists_cons_of_ne_nil hne
  simp only [segmentTlvs, h]

/-- A TLV and no room for it (R221). -/
theorem segmentTlvs_overflow (h : decode bytes = .ok (i, rest)) (hfull : idx = maxTlvs) :
    segmentTlvs maxTlvs (fuel + 1) idx off bytes = .error .tlvTableOverflow := by
  obtain ⟨b, bs, rfl⟩ := List.exists_cons_of_length_pos (by have := three_le_of_decode h; omega : 0 < bytes.length)
  simp only [segmentTlvs, h, if_pos hfull]

/-- The record of a TLV at a place of the table and of PBUF (R219). -/
def recordOf (i : Instr) (off : Nat) : TlvEntry × List Byte :=
  ({ tag := i.tag, len := i.len, poff := BitVec.ofNat 16 off, kind := .none }, i.value)

/-- A TLV and room for it (R219, R222). -/
theorem segmentTlvs_record (h : decode bytes = .ok (i, rest)) (room : idx ≠ maxTlvs) :
    segmentTlvs maxTlvs (fuel + 1) idx off bytes =
      (segmentTlvs maxTlvs fuel (idx + 1) (off + i.len.toNat) rest).map (recordOf i off :: ·) := by
  obtain ⟨b, bs, rfl⟩ := List.exists_cons_of_length_pos (by have := three_le_of_decode h; omega : 0 < bytes.length)
  simp only [segmentTlvs, h, if_neg room]
  cases segmentTlvs maxTlvs fuel (idx + 1) (off + i.len.toNat) rest <;> rfl

/-- Every record takes three bytes of the stream or more (R171). -/
theorem segmentTlvs_length {es : List (TlvEntry × List Byte)} (h : segmentTlvs maxTlvs fuel idx off bytes = .ok es) :
    3 * es.length ≤ bytes.length := by
  induction fuel generalizing idx off bytes es with
  | zero =>
    cases bytes with
    | nil =>
      cases (segmentTlvs_nil maxTlvs 0 idx off).symm.trans h
      simp
    | cons b bs => simp [segmentTlvs] at h
  | succ fuel ih =>
    by_cases hne : bytes = []
    · subst hne
      cases (segmentTlvs_nil maxTlvs _ idx off).symm.trans h
      simp
    cases hd : decode bytes with
    | error x => cases (segmentTlvs_truncated hne hd).symm.trans h
    | ok x =>
      obtain ⟨i, rest⟩ := x
      by_cases hfull : idx = maxTlvs
      · cases (segmentTlvs_overflow hd hfull).symm.trans h
      · rw [segmentTlvs_record hd hfull] at h
        cases hes : segmentTlvs maxTlvs fuel (idx + 1) (off + i.len.toNat) rest with
        | error e =>
          rw [hes] at h
          cases h
        | ok es' =>
          rw [hes] at h
          cases h
          have hrest := ih hes
          obtain ⟨hlen, -⟩ := length_of_decode hd
          rw [List.length_cons]
          omega

end Segment

section Reference

variable {s : State} {es : List (TlvEntry × List Byte)}

/-- The reference of a payload that CLASSIFY rejects (R169, R180). -/
theorem referenceDecode_classify {e : ErrCode} (h : classifyError s = some e) :
    referenceDecode s = .error (e, 0) := by
  simp only [referenceDecode, h]

/-- The reference of a payload without a whole header (R201). -/
theorem referenceDecode_short (h : classifyError s = none) (hshort : s.inLen.toNat < 16) :
    referenceDecode s = .error (.truncatedHeader, 0) := by
  simp only [referenceDecode, h, if_pos hshort]

/-- The reference of a stream that is no exact segmentation (R221, R223). -/
theorem referenceDecode_segment {e : ErrCode} (h : classifyError s = none) (h16 : 16 ≤ s.inLen.toNat)
    (hseg : segmentTlvs s.params.maxTlvs s.stream.length 0 0 s.stream = .error e) :
    referenceDecode s = .error (e, 0) := by
  obtain ⟨hmax, -⟩ := classifyError_none h
  simp only [referenceDecode, h, if_neg (Nat.not_lt.mpr h16), headerWords_ok h16 hmax, hseg]

/-- The reference of a stream with a short entry and PFE = 1 (R242). -/
theorem referenceDecode_shortFail {x : ErrCode × Byte} (h : classifyError s = none) (h16 : 16 ≤ s.inLen.toNat)
    (hseg : segmentTlvs s.params.maxTlvs s.stream.length 0 0 s.stream = .ok es)
    (hall : dispatchAll s.pfe (es.map (dispatched s.params)) = .error x) : referenceDecode s = .error x := by
  obtain ⟨hmax, -⟩ := classifyError_none h
  simp only [referenceDecode, h, if_neg (Nat.not_lt.mpr h16), headerWords_ok h16 hmax, hseg, hall]

/-- The reference of a payload that decodes (R169). -/
theorem referenceDecode_frame {es' : List (TlvEntry × List Byte)} {perr : Bool} (h : classifyError s = none)
    (h16 : 16 ≤ s.inLen.toNat) (hseg : segmentTlvs s.params.maxTlvs s.stream.length 0 0 s.stream = .ok es)
    (hall : dispatchAll s.pfe (es.map (dispatched s.params)) = .ok (es', perr)) :
    referenceDecode s = .ok
      { hdr0 := s.loadHeader.hdr0, hdr1 := s.loadHeader.hdr1, phyTxTime := s.loadHeader.phyTxTime,
        targetTxTime := s.loadHeader.targetTxTime, entries := es', perr := perr } := by
  obtain ⟨hmax, -⟩ := classifyError_none h
  simp only [referenceDecode, h, if_neg (Nat.not_lt.mpr h16), headerWords_ok h16 hmax, hseg, hall]
  rfl

end Reference

/-! The SEG loop -/

/-- The bytes of the payload from the cursor on (R215). -/
def State.bytesLeft (s : State) : List Byte :=
  (List.range (s.inLen.toNat - s.cursor.toNat)).map (fun k => s.ibufByte (s.cursor.toNat + k))

/-- How many bytes are left. -/
theorem State.bytesLeft_length (s : State) : s.bytesLeft.length = s.inLen.toNat - s.cursor.toNat := by
  rw [State.bytesLeft, List.length_map, List.length_range]

/-- The first bytes of a range dropped. -/
theorem drop_map_range {α : Type} (f : Nat → α) (c n m : Nat) :
    ((List.range n).map fun k => f (c + k)).drop m = (List.range (n - m)).map fun k => f (c + m + k) := by
  refine List.ext_getElem (by simp) fun j _ _ => ?_
  simp [Nat.add_assoc]

/-- The table and PBUF of `s` show these entries with their payload copies. -/
def State.holds (s : State) (es : List (TlvEntry × List Byte)) : Prop :=
  ∀ j e v, es[j]? = some (e, v) → s.entry j = e ∧ s.payloadOf e = v

/-- A state of the SEG loop in which the TLVs `es` of the stream have been recorded (R216 to R222). -/
structure SegLoop (es : List (TlvEntry × List Byte)) (s : State) : Prop where
  phase : s.phase = .seg
  unscheduled : s.schedule = []
  cursorIn : s.cursor.toNat ≤ s.inLen.toNat
  maxLen : s.inLen.toNat ≤ s.params.maxFrameLen
  cursor : s.cursor.toNat = 16 + 3 * es.length + s.pwr.toNat
  tidx : s.tidx.toNat = es.length
  room : es.length ≤ s.params.maxTlvs
  didx : s.didx = 0
  holds : s.holds es
  packed : ∀ x ∈ es, x.1.poff.toNat + x.1.len.toNat ≤ s.pwr.toNat

/-- A state of the DISPATCH loop in which `done` has been examined and `left` has not (R240). -/
structure DispatchLoop (done left : List (TlvEntry × List Byte)) (s : State) : Prop where
  phase : s.phase = .dispatch
  unscheduled : s.schedule = []
  didx : s.didx.toNat = done.length
  tidx : s.tidx.toNat = done.length + left.length
  holds : s.holds (done ++ left)

/-- In the SEG loop no counter wraps when a fetched TLV is recorded (log 18). -/
theorem SegLoop.advance {es : List (TlvEntry × List Byte)} {s : State} (h : SegLoop es s) {i : Instr}
    (hfetch : fetchTlv s = .ok i) :
    (s.recordTlv i).tidx.toNat = s.tidx.toNat + 1 ∧ (s.recordTlv i).pwr.toNat = s.pwr.toNat + i.len.toNat ∧
      (s.recordTlv i).cursor.toNat = s.cursor.toNat + 3 + i.len.toNat := by
  have hin := fetchTlv_inside hfetch
  have hcursor := h.cursor
  have htidx := h.tidx
  simp only [State.recordTlv]
  refine ⟨?_, ?_, ?_⟩ <;> bv_omega

/-- Appending one entry to those a state holds. -/
theorem State.holds_concat {s : State} {es : List (TlvEntry × List Byte)} {x : TlvEntry × List Byte}
    (h : s.holds es) (hentry : s.entry es.length = x.1) (hcopy : s.payloadOf x.1 = x.2) : s.holds (es ++ [x]) := by
  intro j e v hj
  rcases Nat.lt_trichotomy j es.length with hlt | rfl | hgt
  · rw [List.getElem?_append_left hlt] at hj
    exact h j e v hj
  · rw [List.getElem?_concat_length] at hj
    cases hj
    exact ⟨hentry, hcopy⟩
  · rw [List.getElem?_eq_none (by simp; omega)] at hj
    cases hj

/-- The record of a TLV at a place given by PWR. -/
theorem recordOf_pwr (i : Instr) (pwr : Half) :
    recordOf i pwr.toNat = ({ tag := i.tag, len := i.len, poff := pwr, kind := .none }, i.value) := by
  rw [recordOf, BitVec.ofNat_toNat, BitVec.setWidth_eq]

/-- What was recorded before stays when a TLV is recorded (R222). -/
theorem SegLoop.holds_record {es : List (TlvEntry × List Byte)} {s : State} (h : SegLoop es s) (i : Instr)
    (room : s.tidx.toNat ≠ s.params.maxTlvs) : (s.recordTlv i).holds es := by
  intro j e v hj
  obtain ⟨hentry, hcopy⟩ := h.holds j e v hj
  obtain ⟨hjlt, -⟩ := List.getElem?_eq_some_iff.mp hj
  have hbelow : e.poff.toNat + e.len.toNat ≤ s.pwr.toNat := h.packed (e, v) (List.mem_of_getElem? hj)
  refine ⟨(State.recordTlv_entry_lt i (by rw [h.tidx]; exact hjlt)).trans hentry, ?_⟩
  rw [← hcopy, ← State.acceptTlv_eq_recordTlv room]
  refine List.map_congr_left fun k hk => State.acceptTlv_notCopied room _ _ ?_
  have hklt := List.mem_range.mp hk
  omega

/-- The payload copy of the TLV just recorded is its value (R222). -/
theorem State.recordTlv_payloadOf_new {s : State} {i : Instr} (room : s.tidx.toNat ≠ s.params.maxTlvs)
    (hfetch : fetchTlv s = .ok i) (hin : s.pwr.toNat + i.len.toNat ≤ s.params.maxFrameLen) :
    (s.recordTlv i).payloadOf { tag := i.tag, len := i.len, poff := s.pwr, kind := .none } = i.value := by
  obtain ⟨-, -, hvalue, -⟩ := fetchTlv_bytes hfetch
  refine Eq.trans (List.map_congr_left fun k hk => ?_) hvalue.symm
  have hklt : k < i.len.toNat := List.mem_range.mp hk
  exact State.recordTlv_pbufByte_new room hfetch hklt (by omega)

/-- Recording the TLV at the cursor is a round of the SEG loop (R219 to R222). -/
theorem SegLoop.record {es : List (TlvEntry × List Byte)} {s : State} (h : SegLoop es s) {i : Instr}
    (hfetch : fetchTlv s = .ok i) (room : es.length ≠ s.params.maxTlvs) :
    SegLoop (es ++ [recordOf i s.pwr.toNat]) (s.recordTlv i) := by
  obtain ⟨htidx', hpwr', hcursor'⟩ := h.advance hfetch
  obtain ⟨-, -, -, hfits, hmax⟩ := fetchTlv_bytes hfetch
  have hroom : s.tidx.toNat ≠ s.params.maxTlvs := h.tidx ▸ room
  have hcursor := h.cursor
  have hle := h.room
  rw [recordOf_pwr]
  refine
    { phase := h.phase, unscheduled := h.unscheduled, cursorIn := hcursor'.trans_le hfits, maxLen := hmax,
      cursor := ?_, tidx := ?_, room := ?_, didx := h.didx, holds := ?_, packed := ?_ }
  · rw [hcursor', hpwr', List.length_append, List.length_singleton]
    omega
  · rw [htidx', h.tidx, List.length_append, List.length_singleton]
  · rw [List.length_append, List.length_singleton]
    show es.length + 1 ≤ s.params.maxTlvs
    omega
  · refine State.holds_concat (h.holds_record i hroom) ?_ (State.recordTlv_payloadOf_new hroom hfetch (by omega))
    rw [← h.tidx, State.recordTlv_entry_new]
  · intro x hx
    rw [hpwr']
    rcases List.mem_append.mp hx with hx | hx
    · have hbelow := h.packed x hx
      omega
    · obtain rfl := List.mem_singleton.mp hx
      exact Nat.le_refl _

/-- A round of the SEG loop takes the TLV off the bytes left (R220). -/
theorem SegLoop.bytesLeft_record {es : List (TlvEntry × List Byte)} {s : State} (h : SegLoop es s) {i : Instr}
    {rest : List Byte} (hfetch : fetchTlv s = .ok i) (hdecode : decode s.bytesLeft = .ok (i, rest)) :
    (s.recordTlv i).bytesLeft = rest := by
  obtain ⟨-, -, hcursor'⟩ := h.advance hfetch
  obtain ⟨-, hrest⟩ := length_of_decode hdecode
  rw [hrest, State.bytesLeft, State.bytesLeft, drop_map_range, hcursor']
  show (List.range (s.inLen.toNat - _)).map (fun k => s.ibufByte _) = _
  rw [Nat.sub_sub, Nat.add_assoc]

/-- With bytes left the cursor is not at the end (R216). -/
theorem State.cursor_ne_of_bytesLeft {s : State} (hne : s.bytesLeft ≠ []) :
    s.cursor ≠ s.inLen := by
  intro hend
  apply hne
  rw [State.bytesLeft, hend, Nat.sub_self]
  rfl

/-- With no byte left the cursor is at the end (R216). -/
theorem SegLoop.cursor_eq {es : List (TlvEntry × List Byte)} {s : State} (h : SegLoop es s)
    (hnil : s.bytesLeft = []) : s.cursor = s.inLen := by
  have hlen := s.bytesLeft_length
  rw [hnil, List.length_nil] at hlen
  have hle := h.cursorIn
  bv_omega

/-- With no whole TLV left the fetch fails with TRUNCATED_TLV (R217, R218). -/
theorem SegLoop.fetchTlv_truncated {es : List (TlvEntry × List Byte)} {s : State} (h : SegLoop es s)
    {x : DecodeError} (hd : decode s.bytesLeft = .error x) : fetchTlv s = .error .truncatedTlv := by
  cases hf : fetchTlv s with
  | error e =>
    obtain ⟨-, he⟩ | ⟨-, hover, -⟩ | ⟨-, -, -, he⟩ | ⟨-, -, hok⟩ := fetchTlv_cases s rfl
    · exact hf.symm.trans he
    · exact absurd h.maxLen (Nat.not_le.mpr hover)
    · exact hf.symm.trans he
    · cases hf.symm.trans hok
  | ok i =>
    have hin := fetchTlv_inside hf
    have hwhole := s.decode_bytesFrom (c := s.cursor.toNat) (n := s.inLen.toNat) (by omega) rfl
    obtain ⟨-, hlen, -, hfits, -⟩ := fetchTlv_bytes hf
    rw [if_pos (by rw [← hlen]; exact hfits)] at hwhole
    cases hwhole.symm.trans hd

/-- The end of the stream, as a step (R216). -/
theorem SegLoop.step_end {es : List (TlvEntry × List Byte)} {s : State} (h : SegLoop es s)
    (hnil : s.bytesLeft = []) : step s = .next { s with phase := .dispatch } := by
  rw [step_unscheduled h.unscheduled, parserStep_seg h.phase, segStep_end (h.cursor_eq hnil)]

/-- A TLV cut short, as a step (R217, R218). -/
theorem SegLoop.step_truncated {es : List (TlvEntry × List Byte)} {s : State} (h : SegLoop es s)
    (hne : s.bytesLeft ≠ []) {x : DecodeError} (hd : decode s.bytesLeft = .error x) :
    step s = .next (s.raise .truncatedTlv 0) := by
  rw [step_unscheduled h.unscheduled, parserStep_seg h.phase,
    segStep_failed (State.cursor_ne_of_bytesLeft hne) (h.fetchTlv_truncated hd)]

/-- A whole TLV, as a step (R215). -/
theorem SegLoop.step_fetched {es : List (TlvEntry × List Byte)} {s : State} (h : SegLoop es s) {i : Instr}
    (hne : s.bytesLeft ≠ []) (hf : fetchTlv s = .ok i) :
    step s = .next (s.acceptTlv i.tag i.len i.value) := by
  rw [step_unscheduled h.unscheduled, parserStep_seg h.phase,
    segStep_fetched (State.cursor_ne_of_bytesLeft hne) hf, exec_seg h.phase]

/-- What one step of the SEG loop does, beside what the reference does with the bytes left: both end, both raise the
same error, or both record the same TLV (R216 to R223). -/
theorem SegLoop.step_cases {es : List (TlvEntry × List Byte)} {s : State} (h : SegLoop es s) (fuel : Nat) :
    (step s = .next { s with phase := .dispatch } ∧
      segmentTlvs s.params.maxTlvs (fuel + 1) es.length s.pwr.toNat s.bytesLeft = .ok []) ∨
    (∃ e, step s = .next (s.raise e 0) ∧
      segmentTlvs s.params.maxTlvs (fuel + 1) es.length s.pwr.toNat s.bytesLeft = .error e) ∨
    (∃ i, step s = .next (s.recordTlv i) ∧ SegLoop (es ++ [recordOf i s.pwr.toNat]) (s.recordTlv i) ∧
      (s.recordTlv i).bytesLeft.length + 3 ≤ s.bytesLeft.length ∧
      segmentTlvs s.params.maxTlvs (fuel + 1) es.length s.pwr.toNat s.bytesLeft =
        (segmentTlvs s.params.maxTlvs fuel (es.length + 1) (s.recordTlv i).pwr.toNat
          (s.recordTlv i).bytesLeft).map (recordOf i s.pwr.toNat :: ·)) := by
  by_cases hne : s.bytesLeft = []
  · exact .inl ⟨h.step_end hne, by rw [hne, segmentTlvs_nil]⟩
  cases hd : decode s.bytesLeft with
  | error x => exact .inr (.inl ⟨_, h.step_truncated hne hd, segmentTlvs_truncated hne hd⟩)
  | ok x =>
    obtain ⟨i, rest⟩ := x
    obtain ⟨-, hf⟩ := fetchTlv_of_decode h.maxLen hd
    have hstep := h.step_fetched hne hf
    by_cases room : es.length = s.params.maxTlvs
    · rw [State.acceptTlv_full (h.tidx.trans room)] at hstep
      exact .inr (.inl ⟨_, hstep, segmentTlvs_overflow hd room⟩)
    · rw [State.acceptTlv_eq_recordTlv (h.tidx ▸ room)] at hstep
      obtain ⟨-, hpwr', -⟩ := h.advance hf
      obtain ⟨hlen, -⟩ := length_of_decode hd
      refine .inr (.inr ⟨i, hstep, h.record hf room, ?_, ?_⟩)
      · rw [h.bytesLeft_record hf hd]
        omega
      · rw [segmentTlvs_record hd room, h.bytesLeft_record hf hd, hpwr']

/-- How the SEG loop goes on from `s`, where the reference answers `r` for the bytes left: through an exact
segmentation into DISPATCH, or to an error after some records (R216 to R224). -/
def segOutcome (done : List (TlvEntry × List Byte)) (s : State) (r : Except ErrCode (List (TlvEntry × List Byte))) :
    Prop :=
  (∃ es t, r = .ok es ∧ runsBusy (es.length + 1) s t ∧ sameOutside s t ∧ t.perr = s.perr ∧
    DispatchLoop [] (done ++ es) t) ∨
  (∃ e n t, r = .error e ∧ 3 * n ≤ s.bytesLeft.length ∧ Host.Core.run Sys2Proof.core (n + 1) s = .next t ∧
    failed e 0 s t)

/-- The end of the stream leads into DISPATCH with nothing examined yet (R216). -/
theorem SegLoop.outcome_end {done : List (TlvEntry × List Byte)} {s : State} (h : SegLoop done s)
    (hstep : step s = .next { s with phase := .dispatch }) : segOutcome done s (.ok []) := by
  have hbusy : s.phase.busy = true := by rw [h.phase]; rfl
  refine .inl ⟨[], _, rfl, runsBusy_step hbusy hstep (runsBusy_zero _), s.sameOutside_toDispatch, rfl, ?_⟩
  rw [List.append_nil]
  exact
    { phase := rfl, unscheduled := h.unscheduled, didx := congrArg BitVec.toNat h.didx,
      tidx := h.tidx.trans (Nat.zero_add _).symm, holds := h.holds }

/-- A round that records a TLV, then the rest of the loop. -/
theorem SegLoop.outcome_record {done : List (TlvEntry × List Byte)} {s : State} {i : Instr}
    {x : TlvEntry × List Byte} {r : Except ErrCode (List (TlvEntry × List Byte))} (h : SegLoop done s)
    (hstep : step s = .next (s.recordTlv i)) (hlen : (s.recordTlv i).bytesLeft.length + 3 ≤ s.bytesLeft.length)
    (hrest : segOutcome (done ++ [x]) (s.recordTlv i) r) : segOutcome done s (r.map (x :: ·)) := by
  have hbusy : s.phase.busy = true := by rw [h.phase]; rfl
  have hsame := s.sameOutside_recordTlv i
  obtain ⟨es, t, rfl, hrun, hout, hperr, hloop⟩ | ⟨e, n, t, rfl, hn, hrun, hfail⟩ := hrest
  · rw [List.append_assoc, List.singleton_append] at hloop
    exact .inl ⟨x :: es, t, rfl, runsBusy_step hbusy hstep hrun, sameOutside_trans hsame hout, hperr, hloop⟩
  · obtain ⟨hin, -, -, hibuf, -⟩ := hsame
    exact .inr ⟨e, n + 1, t, rfl, by omega, (run_succ hstep (n + 1)).trans hrun, failed_of_same hin hibuf hfail⟩

/-- The SEG loop ends as the reference segmentation of the bytes left says, by induction on its fuel. -/
theorem SegLoop.run {fuel : Nat} {done : List (TlvEntry × List Byte)} {s : State} (h : SegLoop done s)
    (hfuel : s.bytesLeft.length ≤ fuel) :
    segOutcome done s (segmentTlvs s.params.maxTlvs fuel done.length s.pwr.toNat s.bytesLeft) := by
  induction fuel generalizing done s with
  | zero =>
    have hnil := List.eq_nil_of_length_eq_zero (Nat.le_zero.mp hfuel)
    rw [hnil, segmentTlvs_nil]
    exact h.outcome_end (h.step_end hnil)
  | succ fuel ih =>
    obtain ⟨hstep, hs⟩ | ⟨e, hstep, hs⟩ | ⟨i, hstep, h', hlen, hs⟩ := h.step_cases fuel <;> rw [hs]
    · exact h.outcome_end hstep
    · exact .inr ⟨e, 0, _, rfl, Nat.zero_le _, run_succ hstep 0, s.failed_raise e 0⟩
    · have hrest := ih h' (by omega)
      rw [List.length_append, List.length_singleton] at hrest
      exact h.outcome_record hstep hlen hrest

/-! The DISPATCH loop -/

/-- The entry DIDX of the DISPATCH loop, and the KIND it is about to get (R240, R241). -/
theorem DispatchLoop.next {done left : List (TlvEntry × List Byte)} {x : TlvEntry × List Byte} {s : State}
    (h : DispatchLoop done (x :: left) s) :
    s.didx ≠ s.tidx ∧ s.entry s.didx.toNat = x.1 ∧ s.payloadOf x.1 = x.2 ∧
      s.nextKind = (dispatched s.params x).1.kind := by
  have hdidx := h.didx
  have htidx := h.tidx
  rw [List.length_cons] at htidx
  have hx : (done ++ x :: left)[done.length]? = some (x.1, x.2) := by
    rw [List.getElem?_append_right (Nat.le_refl _), Nat.sub_self]
    rfl
  obtain ⟨hentry, hcopy⟩ := h.holds _ _ _ hx
  rw [← hdidx] at hentry
  refine ⟨by bv_omega, hentry, hcopy, ?_⟩
  rw [State.nextKind, hentry]
  rfl

/-- Examining an entry is a round of the DISPATCH loop (R240). -/
theorem DispatchLoop.advance {done left : List (TlvEntry × List Byte)} {x : TlvEntry × List Byte} {s : State}
    (h : DispatchLoop done (x :: left) s) (perr : Bool) :
    DispatchLoop (done ++ [dispatched s.params x]) left (s.dispatchEntry s.nextKind perr) := by
  obtain ⟨hleft, hentry, hcopy, hkind⟩ := h.next
  have hdidx := h.didx
  have htidx := h.tidx
  rw [List.length_cons] at htidx
  refine
    { phase := h.phase, unscheduled := h.unscheduled, didx := ?_, tidx := ?_, holds := ?_ }
  · rw [List.length_append, List.length_singleton, State.dispatchEntry_didx (by omega), hdidx]
  · rw [List.length_append, List.length_singleton]
    show s.tidx.toNat = _
    omega
  · intro j e v hj
    rw [State.dispatchEntry_entry, hdidx]
    rw [List.append_assoc, List.singleton_append] at hj
    by_cases hjd : j = done.length
    · subst hjd
      rw [List.getElem?_append_right (Nat.le_refl _), Nat.sub_self] at hj
      cases hj
      rw [if_pos rfl, ← hdidx, hentry, hkind]
      exact ⟨rfl, hcopy⟩
    · rw [if_neg hjd]
      refine h.holds j e v ?_
      rw [List.getElem?_append] at hj ⊢
      split at hj
      · rename_i hlt
        rw [if_pos hlt]
        exact hj
      · rename_i hge
        rw [if_neg hge]
        obtain ⟨m, hm⟩ : ∃ m, j - done.length = m + 1 := ⟨j - done.length - 1, by omega⟩
        rw [hm] at hj ⊢
        exact hj

/-- A round of the DISPATCH loop, as a step (R240). -/
theorem DispatchLoop.step_entry {done left : List (TlvEntry × List Byte)} {x : TlvEntry × List Byte} {s : State}
    (h : DispatchLoop done (x :: left) s) :
    step s = .next (s.dispatchTlv x.1.tag s.nextKind) := by
  obtain ⟨hleft, hentry, -, -⟩ := h.next
  rw [step_unscheduled h.unscheduled, parserStep_dispatch h.phase, dispatchStep_entry hleft, exec_dispatch h.phase,
    payloadKind_fetchEntry, fetchEntry, instrOf_tag, hentry]

/-- An entry is short exactly when its KIND is TRUNCATED_PAYLOAD (R242). -/
theorem isShort_iff (x : TlvEntry × List Byte) : isShort x = true ↔ x.1.kind = .truncatedPayload := beq_iff_eq

/-- A round that goes on: the entry is not short, or PFE = 0 (R240, R243). -/
theorem DispatchLoop.step_goesOn {done left : List (TlvEntry × List Byte)} {x : TlvEntry × List Byte} {s : State}
    (h : DispatchLoop done (x :: left) s) (hgo : s.pfe = true → isShort (dispatched s.params x) = false) :
    step s = .next (s.dispatchEntry s.nextKind (s.perr || isShort (dispatched s.params x))) := by
  obtain ⟨-, -, -, hkind⟩ := h.next
  rw [h.step_entry]
  obtain ⟨hk, ht⟩ | ⟨hk, hpfe, ht⟩ | ⟨hk, hpfe, ht⟩ := s.dispatchTlv_cases x.1.tag s.nextKind <;> rw [ht]
  · have hfull : isShort (dispatched s.params x) = false :=
      Bool.eq_false_iff.mpr fun hs => hk (hkind.trans ((isShort_iff _).mp hs))
    rw [hfull, Bool.or_false]
    rfl
  · rw [(isShort_iff _).mpr (hkind.symm.trans hk), Bool.or_true]
    rfl
  · cases (hgo hpfe).symm.trans ((isShort_iff _).mpr (hkind.symm.trans hk))

/-- A round that fails: the entry is short and PFE = 1 (R242). -/
theorem DispatchLoop.step_fails {done left : List (TlvEntry × List Byte)} {x : TlvEntry × List Byte} {s : State}
    (h : DispatchLoop done (x :: left) s) (hpfe : s.pfe = true) (hshort : isShort (dispatched s.params x) = true) :
    step s = .next ((s.setKind .truncatedPayload).raise .truncatedTlvPayload x.1.tag) := by
  obtain ⟨-, -, -, hkind⟩ := h.next
  rw [h.step_entry, hkind.trans ((isShort_iff _).mp hshort), State.dispatchTlv_raise hpfe]

/-- When no entry fails, the DISPATCH loop examines every entry and PERR tells whether one was short (R243). -/
theorem DispatchLoop.run_ok {done left : List (TlvEntry × List Byte)} {s : State} (h : DispatchLoop done left s)
    (hgo : s.pfe = true → ∀ x ∈ left, isShort (dispatched s.params x) = false) :
    ∃ t, runsBusy left.length s t ∧ sameOutside s t ∧
      DispatchLoop (done ++ left.map (dispatched s.params)) [] t ∧
      t.perr = (s.perr || (left.map (dispatched s.params)).any isShort) := by
  induction left generalizing done s with
  | nil =>
    refine ⟨s, runsBusy_zero s, sameOutside_refl s, ?_, by simp⟩
    rwa [List.map_nil, List.append_nil]
  | cons x left ih =>
    have hbusy : s.phase.busy = true := by rw [h.phase]; rfl
    have hstep := h.step_goesOn fun hpfe => hgo hpfe x List.mem_cons_self
    obtain ⟨t, hrun, hout, hloop, hperr⟩ :=
      ih (h.advance _) fun hpfe y hy => hgo hpfe y (List.mem_cons_of_mem _ hy)
    refine ⟨t, runsBusy_step hbusy hstep hrun, sameOutside_trans (s.sameOutside_dispatchEntry _ _) hout, ?_, ?_⟩
    · rwa [List.append_assoc, List.singleton_append] at hloop
    · rw [hperr, List.map_cons, List.any_cons, ← Bool.or_assoc]
      rfl

/-- With PFE = 1 the DISPATCH loop ends at the first short entry (R242). -/
theorem DispatchLoop.run_fails {done left : List (TlvEntry × List Byte)} {y : TlvEntry × List Byte} {s : State}
    (h : DispatchLoop done left s) (hpfe : s.pfe = true)
    (hfirst : (left.map (dispatched s.params)).find? isShort = some y) :
    ∃ n t, n < left.length ∧ Host.Core.run Sys2Proof.core (n + 1) s = .next t ∧
      failed .truncatedTlvPayload y.1.tag s t := by
  induction left generalizing done s with
  | nil => cases hfirst
  | cons x left ih =>
    rw [List.map_cons, List.find?_cons] at hfirst
    cases hshort : isShort (dispatched s.params x) with
    | true =>
      rw [hshort] at hfirst
      cases hfirst
      exact ⟨0, _, Nat.succ_pos _, run_succ (h.step_fails hpfe hshort) 0, State.failed_raise _ _ _⟩
    | false =>
      rw [hshort] at hfirst
      have hstep := h.step_goesOn fun _ => hshort
      obtain ⟨n, t, hn, hrun, hfail⟩ := ih (h.advance _) hpfe hfirst
      obtain ⟨hin, -, -, hibuf, -⟩ := s.sameOutside_dispatchEntry s.nextKind (s.perr || isShort (dispatched s.params x))
      exact ⟨n + 1, t, Nat.succ_lt_succ hn, (run_succ hstep (n + 1)).trans hrun, failed_of_same hin hibuf hfail⟩

/-- With every entry examined the DISPATCH loop finishes, as a step (R167). -/
theorem DispatchLoop.step_finish {es : List (TlvEntry × List Byte)} {s : State} (h : DispatchLoop es [] s) :
    step s = .next s.finish := by
  have hend : s.didx = s.tidx := BitVec.eq_of_toNat_eq (h.didx.trans h.tidx.symm)
  rw [step_unscheduled h.unscheduled, parserStep_dispatch h.phase, dispatchStep_finish hend]

/-- What the finished state shows: the entries of the loop, and header registers and ERR as they were (R167). -/
theorem DispatchLoop.shows_finish {es : List (TlvEntry × List Byte)} {s : State} (h : DispatchLoop es [] s)
    (hcode : s.errCode = .none) (htag : s.errTag = 0) :
    s.finish.shows
      { hdr0 := s.hdr0, hdr1 := s.hdr1, phyTxTime := s.phyTxTime, targetTxTime := s.targetTxTime, entries := es,
        perr := s.perr } := by
  have hholds := h.holds
  rw [List.append_nil] at hholds
  exact ⟨rfl, hcode, htag, rfl, rfl, rfl, rfl, rfl, rfl, h.tidx, hholds⟩

/-! A whole decode -/

/-- The stream is the payload without its header (R122). -/
theorem State.stream_length (s : State) : s.stream.length = s.inLen.toNat - 16 := by
  rw [State.stream, List.length_map, List.length_range]

/-- HEADER leaves the inputs alone (R200). -/
theorem State.sameInputs_loadHeader (s : State) : sameInputs s s.loadHeader :=
  ⟨rfl, rfl, rfl, rfl, rfl, rfl, rfl, rfl⟩

/-- The dispatch part of the reference: which of its answers goes with which entries (R242 to R244). -/
theorem dispatchAll_cases (pfe : Bool) (es : List (TlvEntry × List Byte)) :
    (dispatchAll pfe es = .ok (es, es.any isShort) ∧ (pfe = true → ∀ x ∈ es, isShort x = false)) ∨
    (pfe = true ∧ ∃ y, es.find? isShort = some y ∧ dispatchAll pfe es = .error (.truncatedTlvPayload, y.1.tag)) := by
  cases hfirst : es.find? isShort with
  | none =>
    have hall : ∀ x ∈ es, isShort x = false := fun x hx => Bool.eq_false_iff.mpr (List.find?_eq_none.mp hfirst x hx)
    have hany : es.any isShort = false := List.any_eq_false.mpr (List.find?_eq_none.mp hfirst)
    refine .inl ⟨?_, fun _ => hall⟩
    simp only [dispatchAll, hfirst, hany]
  | some y =>
    have hany : es.any isShort = true :=
      List.any_eq_true.mpr ⟨y, List.mem_of_find?_eq_some hfirst, List.find?_some hfirst⟩
    cases pfe with
    | true =>
      refine .inr ⟨rfl, y, rfl, ?_⟩
      simp only [dispatchAll, hfirst, if_true]
    | false =>
      refine .inl ⟨?_, nofun⟩
      simp [dispatchAll, hfirst, hany]

/-- What a started decode with nothing scheduled comes to: the Frame record of the reference in DONE, or its error
(R169 to R171). -/
def decodeOutcome (s : State) : Prop :=
  (∃ f t, referenceDecode s = .ok f ∧ runsBusy (2 * f.entries.length + 4) s t ∧ t.shows f ∧ sameInputs s t ∧
    sameIbuf s t) ∨
  (∃ e tag k t, referenceDecode s = .error (e, tag) ∧ k ≤ 2 * ((s.inLen.toNat - 16) / 3) + 4 ∧
    Host.Core.run Sys2Proof.core k s = .next t ∧ failed e tag s t)

/-- A started decode has recorded the TLVs `es` of an exact segmentation and is in DISPATCH in `t` (R224, R240). -/
structure Segmented (s : State) (es : List (TlvEntry × List Byte)) (t : State) : Prop where
  accepted : classifyError s = none
  header : 16 ≤ s.inLen.toNat
  segments : segmentTlvs s.params.maxTlvs s.stream.length 0 0 s.stream = .ok es
  runs : runsBusy (es.length + 3) s t
  outside : sameOutside s.loadHeader t
  perr : t.perr = false
  loop : DispatchLoop [] es t

/-- Inputs and IBUF are still those of the start. -/
theorem Segmented.same {s t : State} {es : List (TlvEntry × List Byte)} (h : Segmented s es t) :
    sameInputs s t ∧ sameIbuf s t := by
  obtain ⟨hin, -, -, hibuf, -⟩ := h.outside
  exact ⟨sameInputs_trans s.sameInputs_loadHeader hin, hibuf⟩

/-- A segmentation has at most as many records as fit the stream (R171). -/
theorem Segmented.length_le {s t : State} {es : List (TlvEntry × List Byte)} (h : Segmented s es t) :
    es.length ≤ (s.inLen.toNat - 16) / 3 := by
  have hlen := segmentTlvs_length h.segments
  rw [s.stream_length] at hlen
  omega

/-- A decode that DISPATCH takes to its end (R167, R243). -/
theorem Segmented.done {s t : State} {es : List (TlvEntry × List Byte)} (h : Segmented s es t)
    (hnone : s.errCode = .none ∧ s.errTag = 0)
    (hall : dispatchAll s.pfe (es.map (dispatched s.params)) =
      .ok (es.map (dispatched s.params), (es.map (dispatched s.params)).any isShort))
    (hgo : s.pfe = true → ∀ x ∈ es.map (dispatched s.params), isShort x = false) : decodeOutcome s := by
  obtain ⟨⟨hparams, -, hpfe, -⟩, -⟩ := h.same
  obtain ⟨u, hrun, hout, hloop, hperr⟩ := h.loop.run_ok fun hset x hx => by
    rw [hparams]
    exact hgo (hpfe.symm.trans hset) _ (List.mem_map_of_mem hx)
  rw [hparams, List.nil_append] at hloop
  rw [hparams, h.perr, Bool.false_or] at hperr
  have hbusy : u.phase.busy = true := by rw [hloop.phase]; rfl
  have hrunAll := runsBusy_trans (runsBusy_trans h.runs hrun) (runsBusy_step hbusy hloop.step_finish (runsBusy_zero _))
  obtain ⟨hin, ⟨h0, h1, hphy, htarget, -⟩, ⟨hcode, htag⟩, hibuf, -⟩ := sameOutside_trans h.outside hout
  obtain ⟨hcode0, htag0⟩ := hnone
  have hshows := hloop.shows_finish (hcode.trans hcode0) (htag.trans htag0)
  rw [h0, h1, hphy, htarget, hperr] at hshows
  refine .inl ⟨_, u.finish, referenceDecode_frame h.accepted h.header h.segments hall, ?_, hshows,
    sameInputs_trans s.sameInputs_loadHeader hin, hibuf⟩
  rw [List.length_map]
  rwa [show es.length + 3 + es.length + (0 + 1) = 2 * es.length + 4 by omega] at hrunAll

/-- A decode that a short entry ends, with PFE = 1 (R242). -/
theorem Segmented.shortFail {s t : State} {es : List (TlvEntry × List Byte)} (h : Segmented s es t)
    {y : TlvEntry × List Byte} (hpfe : s.pfe = true)
    (hy : (es.map (dispatched s.params)).find? isShort = some y)
    (hall : dispatchAll s.pfe (es.map (dispatched s.params)) = .error (.truncatedTlvPayload, y.1.tag)) :
    decodeOutcome s := by
  obtain ⟨⟨hparams, -, hpfeT, -⟩, -⟩ := h.same
  obtain ⟨hin, hibuf⟩ := h.same
  obtain ⟨n, u, hn, hrun, hfail⟩ := h.loop.run_fails (hpfeT.trans hpfe) (by rw [hparams]; exact hy)
  obtain ⟨hrunT, -⟩ := h.runs
  have hle := h.length_le
  exact .inr ⟨_, _, es.length + 3 + (n + 1), u, referenceDecode_shortFail h.accepted h.header h.segments hall, by omega,
    (run_add hrunT (n + 1)).trans hrun, failed_of_same hin hibuf hfail⟩

/-- DISPATCH ends the decode as the reference says (R240 to R244). -/
theorem Segmented.decodeOutcome {s t : State} {es : List (TlvEntry × List Byte)} (h : Segmented s es t)
    (hnone : s.errCode = .none ∧ s.errTag = 0) : decodeOutcome s := by
  obtain ⟨hall, hgo⟩ | ⟨hpfe, y, hy, hall⟩ := dispatchAll_cases s.pfe (es.map (dispatched s.params))
  · exact h.done hnone hall hgo
  · exact h.shortFail hpfe hy hall

/-- A started decode holds no error (R162). -/
theorem errNone_of_started {s : State} (h : s.started) : s.errCode = .none ∧ s.errTag = 0 := by
  obtain ⟨-, hcode, htag, -⟩ := h
  exact ⟨hcode, htag⟩

section Decode

variable {s : State} (hstarted : s.started) (hsch : s.schedule = [])
include hstarted hsch

/-- A payload that CLASSIFY rejects (R180). -/
theorem decodeOutcome_classify {e : ErrCode} (he : classifyError s = some e) : decodeOutcome s := by
  obtain ⟨hphase, -⟩ := hstarted
  have hstep : step s = .next (s.raise e 0) := by
    rw [step_unscheduled hsch, parserStep_classify hphase, classifyStep_raise he]
  exact .inr ⟨e, 0, 1, _, referenceDecode_classify he, by omega, run_succ hstep 0, s.failed_raise e 0⟩

/-- An accepted payload, as a step (R186). -/
theorem step_started_accept (hok : classifyError s = none) : step s = .next { s with phase := .header } := by
  obtain ⟨hphase, -⟩ := hstarted
  rw [step_unscheduled hsch, parserStep_classify hphase, classifyStep_pass hok]

/-- A payload without a whole header (R201). -/
theorem decodeOutcome_short (hok : classifyError s = none) (hshort : s.inLen.toNat < 16) : decodeOutcome s := by
  have hstep1 := step_started_accept hstarted hsch hok
  have hstep2 := step_header_unscheduled (s := { s with phase := .header }) hsch rfl
  rw [headerStep_short (s := { s with phase := .header }) hshort] at hstep2
  exact .inr ⟨_, 0, 2, _, referenceDecode_short hok hshort, by omega,
    (run_succ hstep1 1).trans (run_succ hstep2 0), State.failed_raise { s with phase := .header } _ _⟩

/-- CLASSIFY and HEADER of a payload with a whole header are two steps (R186, R206). -/
theorem runsBusy_loadHeader (hok : classifyError s = none) (h16 : 16 ≤ s.inLen.toNat) :
    runsBusy 2 s s.loadHeader := by
  have hstep1 := step_started_accept hstarted hsch hok
  obtain ⟨hphase, -⟩ := hstarted
  obtain ⟨hmax, -⟩ := classifyError_none hok
  have hstep2 := step_header_unscheduled (s := { s with phase := .header }) hsch rfl
  rw [headerStep_ok (s := { s with phase := .header }) h16 hmax] at hstep2
  exact runsBusy_step (by rw [hphase]; rfl) hstep1 (runsBusy_step rfl hstep2 (runsBusy_zero _))

/-- After HEADER the SEG loop begins, with nothing recorded and the whole stream left (R206, R216). -/
theorem segLoop_loadHeader (hok : classifyError s = none) (h16 : 16 ≤ s.inLen.toNat) :
    SegLoop [] s.loadHeader ∧ s.loadHeader.bytesLeft = s.stream ∧ s.loadHeader.pwr.toNat = 0 := by
  obtain ⟨-, -, -, -, -, -, -, -, htidx, hdidx, hpwr⟩ := hstarted
  obtain ⟨hmax, -⟩ := classifyError_none hok
  have hpwr0 : s.loadHeader.pwr.toNat = 0 := congrArg BitVec.toNat hpwr
  refine ⟨?_, rfl, hpwr0⟩
  exact
    { phase := rfl, unscheduled := hsch, cursorIn := h16, maxLen := hmax,
      cursor := by rw [hpwr0]; rfl, tidx := congrArg BitVec.toNat htidx, room := Nat.zero_le _, didx := hdidx,
      holds := nofun, packed := nofun }

/-- A stream that is no exact segmentation, after `n` records (R221, R223). -/
theorem decodeOutcome_segment (hok : classifyError s = none) (h16 : 16 ≤ s.inLen.toNat) {e : ErrCode} {n : Nat}
    {t : State} (he : segmentTlvs s.params.maxTlvs s.stream.length 0 0 s.stream = .error e)
    (hn : 3 * n ≤ s.stream.length) (hrun : Host.Core.run Sys2Proof.core (n + 1) s.loadHeader = .next t)
    (hfail : failed e 0 s.loadHeader t) : decodeOutcome s := by
  obtain ⟨hhead, -⟩ := runsBusy_loadHeader hstarted hsch hok h16
  rw [s.stream_length] at hn
  exact .inr ⟨e, 0, 2 + (n + 1), t, referenceDecode_segment hok h16 he, by omega, (run_add hhead (n + 1)).trans hrun,
    failed_of_same s.sameInputs_loadHeader (fun _ => rfl) hfail⟩

/-- A stream that is an exact segmentation, recorded by SEG (R224). -/
theorem segmented_of_run (hok : classifyError s = none) (h16 : 16 ≤ s.inLen.toNat)
    {es : List (TlvEntry × List Byte)} {t : State}
    (hes : segmentTlvs s.params.maxTlvs s.stream.length 0 0 s.stream = .ok es)
    (hrun : runsBusy (es.length + 1) s.loadHeader t) (hout : sameOutside s.loadHeader t) (hperr : t.perr = s.perr)
    (hloop : DispatchLoop [] es t) : Segmented s es t := by
  obtain ⟨-, -, -, -, -, hnoPerr, -⟩ := id hstarted
  have hrunAll := runsBusy_trans (runsBusy_loadHeader hstarted hsch hok h16) hrun
  rw [show 2 + (es.length + 1) = es.length + 3 by omega] at hrunAll
  exact
    { accepted := hok, header := h16, segments := hes, runs := hrunAll, outside := hout,
      perr := hperr.trans hnoPerr, loop := hloop }

/-- A started decode comes to what the reference says. -/
theorem decodeOutcome_started : decodeOutcome s := by
  cases hok : classifyError s with
  | some e => exact decodeOutcome_classify hstarted hsch hok
  | none =>
    rcases Nat.lt_or_ge s.inLen.toNat 16 with hshort | h16
    · exact decodeOutcome_short hstarted hsch hok hshort
    obtain ⟨hloop, hleft, hpwr⟩ := segLoop_loadHeader hstarted hsch hok h16
    have hseg := hloop.run (fuel := s.stream.length) (by rw [hleft])
    rw [hleft, hpwr] at hseg
    obtain ⟨es, t, hes, hrun, hout, hperr, hdispatch⟩ | ⟨e, n, t, he, hn, hrun, hfail⟩ := hseg
    · exact (segmented_of_run hstarted hsch hok h16 hes hrun hout hperr hdispatch).decodeOutcome
        (errNone_of_started hstarted)
    · rw [hleft] at hn
      exact decodeOutcome_segment hstarted hsch hok h16 he hn hrun hfail

end Decode

/-- Settles O60: the outcome of the decode is the reference's answer, so each clause of the statement is one of its
cases. -/
theorem decodeRefinesReference : Obligations.DecodeRefinesReference := by
  intro s _ hstarted hsch
  obtain ⟨f, t, href, ⟨hrun, hbusy⟩, hshows, hin, hibuf⟩ | ⟨e, tag, k, t, href, hk, hrun, hfail⟩ :=
    decodeOutcome_started hstarted hsch
  · refine ⟨fun f' hf => ?_, fun e' tag' he => nomatch href.symm.trans he⟩
    cases href.symm.trans hf
    exact ⟨t, hrun, hshows, hin, hibuf, hbusy⟩
  · refine ⟨fun f' hf => (nomatch href.symm.trans hf), fun e' tag' he => ?_⟩
    cases href.symm.trans he
    exact ⟨k, t, hk, hrun, hfail⟩

end Sys2Proof.Machine
end
